-- ==== Sys2Proof/Word.lean ====
section
/-!
DEFINITION. The widths of 00_scope.md R10: every register value is an unsigned bit vector, bit 0 least significant.
-/
namespace Sys2Proof

/-- A byte: TCNT, EXT, the latches, a wiper, one byte of a frame. -/
abbrev Byte := BitVec 8

/-- Sixteen bits: a snapshot, a delta, PREV, TARGET. -/
abbrev Half := BitVec 16

/-- Thirty-two bits: a command word, RES, STATUS (30_encoding.md R80, R89). -/
abbrev Word := BitVec 32

/-- The 24-bit immediate operand of a command (30_encoding.md R80, R82). -/
abbrev Imm := BitVec 24

end Sys2Proof
end

