-- ==== Sys2Proof/Config.lean ====
section
/-!
DEFINITION. What one instance of the block fixes (00_scope.md R6, R7, R9), what the environment may do between two
micro-steps (R4, R5, 20_memory.md R71), and the free values, which nothing constrains.
-/
namespace Sys2Proof

/-- The three potentiometer channels (00_scope.md R7): PWM = 0, COARSE = 1, FINE = 2. -/
inductive Channel where
  | pwm
  | coarse
  | fine
  deriving DecidableEq, Repr, Inhabited

/-- One value for each channel: `WIPER[ch]`, `DEV[ch]`, `MAXR[ch]`. -/
structure PerChannel (α : Type) where
  pwm    : α
  coarse : α
  fine   : α
  deriving DecidableEq, Repr

/-- Polarity of an edge of `pulse_in` (00_scope.md R9, parameter EDGE; 10_state.md R20). -/
inductive Edge where
  | rising
  | falling
  deriving DecidableEq, Repr, Inhabited

/-- Width of the window sum (00_scope.md R9, parameter SUM_WIDTH). -/
inductive SumWidth where
  | w16
  | w32
  deriving DecidableEq, Repr

/-- Order of the two frames of a carrying TUNE (00_scope.md R9, parameter TUNE_FRAME_ORDER). -/
inductive FrameOrder where
  | fineFirst
  | coarseFirst
  deriving DecidableEq, Repr

/-- The implementation parameters of 00_scope.md R6, R7, R9. `STEPS[FINE]` = 256 is fixed by the source (R7) and so is
no field. Their legal ranges are `Params.Legal` (WellFormed.lean). No rule depends on `spiMode` (R9, R152). -/
structure Params where
  cap              : Nat
  stepsPwm         : Nat
  stepsCoarse      : Nat
  maxR             : PerChannel Nat
  sumWidth         : SumWidth
  edge             : Edge
  frameOrder       : FrameOrder
  resetWiperPwm    : Byte
  resetWiperCoarse : Byte
  resetTarget      : Half
  spiMode          : BitVec 2
  deriving DecidableEq, Repr

/-- What may happen next: one micro-step of one agent, or one change of an input. The interleaving is the
environment's choice (20_memory.md R71, log 1).
* `pulseIn e`: an edge of polarity `e` on `pulse_in` (10_state.md R20); it is a PULSE step when `e` is the counted one.
* `service`: a SERVICE step (40_timer_counter.md R102).
* `accept`: the handshake micro-step in which a presented command is accepted (10_state.md R21, log 3).
* `seq`: one micro-step of the command in progress (30_encoding.md R84).
* `host cmd`: the host drives `cmd_valid` and `cmd_word` (`none`: `cmd_valid` = 0; R21).
* `device ch w`: the device of `ch` ends up holding `w` other than by receiving a frame (42_potentiometer.md R161, log 10).
* `rst level`: the input `rst_n` is driven to `level` (R23, 70_reset_and_hazards.md R250). -/
inductive Event where
  | pulseIn (e : Edge)
  | service
  | accept
  | seq
  | host (cmd : Option Word)
  | device (ch : Channel) (w : Byte)
  | rst (level : Bool)
  deriving DecidableEq, Repr, Inhabited

namespace Config

/-- FREE VALUE (log 7): the n-th value drawn for a byte the spec calls "any value" (10_state.md R30, R38). -/
opaque freeByte : Nat → Byte

/-- FREE VALUE (log 1): the n-th choice of what happens next, where the agenda in the state says nothing. -/
opaque freeEvent : Nat → Event

/-- DESIGN CHOICE (log 6): the parameter set of 95_test_vectors.md section 0, with the defaults of 00_scope.md R9. -/
def vectorParams : Params where
  cap := 4
  stepsPwm := 256
  stepsCoarse := 256
  maxR := ⟨10000, 10000, 10000⟩
  sumWidth := .w16
  edge := .rising
  frameOrder := .fineFirst
  resetWiperPwm := 0
  resetWiperCoarse := 128
  resetTarget := 28000
  spiMode := 0

end Config

end Sys2Proof
end

