-- ==== Sys2Proof/Syntax.lean ====
section
/-!
DEFINITION. The commands (30_encoding.md R83, opcode_table.json: one constructor a row) and the names of the command
errors (60_exceptions.md R220).
-/
namespace Sys2Proof

/-- The ten commands of 30_encoding.md R83. A channel operand is one of the three channels, so CH = 3 is no operand
(it is the error CHANNEL_INVALID of the decoder, R86). Whether the immediate is in its legal range is `Instr.WellFormed`. -/
inductive Instr where
  /-- R104: torn-read-safe snapshot of the extended counter. -/
  | snap
  /-- R131: estimator tick. -/
  | etick
  /-- R133: estimator query. -/
  | eqry
  /-- R155: set the wiper of a channel. -/
  | pset (ch : Channel) (w : Imm)
  /-- R156: set the wiper of a channel from a resistance. -/
  | psetr (ch : Channel) (r : Imm)
  /-- R157: resistance to wiper, no write. -/
  | pr2w (ch : Channel) (r : Imm)
  /-- R158: wiper to resistance, no write. -/
  | pw2r (ch : Channel) (w : Imm)
  /-- R185: one step of the relay tuner. -/
  | tune
  /-- R183: set the target frequency. -/
  | stgt (t : Imm)
  /-- R201: read one register. -/
  | rdreg (idx : Imm)
  deriving DecidableEq, Repr

/-- The command errors of 60_exceptions.md R220, by name; code 0 (OK) is the absence of one, codes 5 to 15 are never
produced. -/
inductive CmdError where
  /-- Code 1: OP is 0x0 or 0xB to 0xF. -/
  | illegalOpcode
  /-- Code 2: a reserved field is not zero. -/
  | reservedNonzero
  /-- Code 3: format C with CH = 3. -/
  | channelInvalid
  /-- Code 4: the operand is outside its legal range. -/
  | operandRange
  deriving DecidableEq, Repr

end Sys2Proof
end

