-- ==== Sys2Proof/Machine/Operands.lean ====
section
/-!
DEFINITION. Constants, operand ranges, the conversion functions and the register index map: everything about an operand
that needs the parameters but not the state (00_scope.md R7, R8, R11; 30_encoding.md R82, R86; 42_potentiometer.md R150,
R151; 44_register_access.md R200).
-/
namespace Sys2Proof.Machine

/-! ## Constants (00_scope.md R8) -/

/-- The lower guard of the fine wiper. -/
def guardLo : Nat := 28

/-- The upper guard of the fine wiper. -/
def guardHi : Nat := 228

/-- Mid-scale. -/
def midScale : Nat := 128

/-- Least legal target frequency, in Hz. -/
def targetLo : Nat := 20000

/-- Greatest legal target frequency, in Hz. -/
def targetHi : Nat := 35000

/-- The fixed potentiometer command byte. -/
def potCommandByte : Byte := 0x00

/-! ## Channels -/

/-- The value of one channel. -/
def chGet {α : Type} (v : PerChannel α) : Channel → α
  | .pwm    => v.pwm
  | .coarse => v.coarse
  | .fine   => v.fine

/-- The value of one channel replaced. -/
def chSet {α : Type} (v : PerChannel α) (ch : Channel) (a : α) : PerChannel α :=
  match ch with
  | .pwm    => { v with pwm := a }
  | .coarse => { v with coarse := a }
  | .fine   => { v with fine := a }

/-- `STEPS[ch]` (00_scope.md R7). -/
def stepsOf (p : Params) : Channel → Nat
  | .pwm    => p.stepsPwm
  | .coarse => p.stepsCoarse
  | .fine   => 256

/-- `MAXR[ch]` (00_scope.md R7). -/
def maxROf (p : Params) (ch : Channel) : Nat := chGet p.maxR ch

/-- `SUM_WIDTH` in bits (00_scope.md R9). -/
def sumBits (p : Params) : Nat :=
  match p.sumWidth with
  | .w16 => 16
  | .w32 => 32

/-! ## Conversion (42_potentiometer.md R150, R151) -/

/-- Half-up rounding of `a / b` (00_scope.md R11; log 12). -/
def rnd (a b : Nat) : Nat := (2 * a + b) / (2 * b)

/-- `R2W(ch, r)` (42_potentiometer.md R150). -/
def r2w (p : Params) (ch : Channel) (r : Nat) : Nat :=
  min (rnd (r * stepsOf p ch) (maxROf p ch)) (stepsOf p ch - 1)

/-- `W2R(ch, w)` (42_potentiometer.md R151). -/
def w2r (p : Params) (ch : Channel) (w : Nat) : Nat :=
  rnd (w * maxROf p ch) (stepsOf p ch)

/-! ## Legal operand ranges (30_encoding.md R82, R86 item 4) -/

/-- A wiper operand (PSET, PW2R) is in [0, STEPS[ch] - 1]. -/
def wiperLegal (p : Params) (ch : Channel) (w : Imm) : Bool := decide (w.toNat < stepsOf p ch)

/-- A resistance operand (PSETR, PR2W) is in [0, MAXR[ch]]. -/
def resistanceLegal (p : Params) (ch : Channel) (r : Imm) : Bool := decide (r.toNat ≤ maxROf p ch)

/-- A target operand (STGT) is in [20000, 35000]. -/
def targetLegal (t : Imm) : Bool := decide (targetLo ≤ t.toNat ∧ t.toNat ≤ targetHi)

/-- What an index of 44_register_access.md R200 selects. -/
inductive Reg where
  | status
  | snap
  | freq
  | prev
  | cur
  | target
  | wiper (ch : Channel)
  | tcnt
  | ext
  | cap
  | ring (i : Nat)
  deriving DecidableEq, Repr

/-- The register index map of 44_register_access.md R200; `none`: the index is not in the map. -/
def regAt (p : Params) (idx : Imm) : Option Reg :=
  match idx.toNat with
  | 0x0 => some .status
  | 0x1 => some .snap
  | 0x2 => some .freq
  | 0x3 => some .prev
  | 0x4 => some .cur
  | 0x5 => some .target
  | 0x6 => some (.wiper .pwm)
  | 0x7 => some (.wiper .coarse)
  | 0x8 => some (.wiper .fine)
  | 0x9 => some .tcnt
  | 0xA => some .ext
  | 0xB => some .cap
  | n   => if 0x1000 ≤ n ∧ n < 0x1000 + p.cap then some (.ring (n - 0x1000)) else none

end Sys2Proof.Machine
end

