-- ==== Sys2Proof/WellFormed.lean ====
section
/-!
DEFINITION. When a parameter set is legal (00_scope.md R6, R7, R9) and when a command's operand is in its legal range
(30_encoding.md R82). The ranges themselves stand once, in Machine/Operands.lean, where the meanings use them too.
-/
namespace Sys2Proof

/-- The constraints of 00_scope.md R6, R7, R9 on the parameters. -/
abbrev Params.Legal (p : Params) : Prop :=
  (1 ≤ p.cap ∧ p.cap ≤ 4096) ∧
  (1 ≤ p.stepsPwm ∧ p.stepsPwm ≤ 256) ∧
  (1 ≤ p.stepsCoarse ∧ p.stepsCoarse ≤ 256) ∧
  (1 ≤ p.maxR.pwm ∧ p.maxR.pwm < 2 ^ 24) ∧
  (1 ≤ p.maxR.coarse ∧ p.maxR.coarse < 2 ^ 24) ∧
  (1 ≤ p.maxR.fine ∧ p.maxR.fine < 2 ^ 24) ∧
  p.resetWiperPwm.toNat < p.stepsPwm ∧
  p.resetWiperCoarse.toNat < p.stepsCoarse ∧
  (20000 ≤ p.resetTarget.toNat ∧ p.resetTarget.toNat ≤ 35000)

/-- The operand of a command is in its legal range (30_encoding.md R82). -/
def Instr.wellFormed (p : Params) : Instr → Bool
  | .snap      => true
  | .etick     => true
  | .eqry      => true
  | .pset ch w => Machine.wiperLegal p ch w
  | .psetr ch r => Machine.resistanceLegal p ch r
  | .pr2w ch r => Machine.resistanceLegal p ch r
  | .pw2r ch w => Machine.wiperLegal p ch w
  | .tune      => true
  | .stgt t    => Machine.targetLegal t
  | .rdreg idx => (Machine.regAt p idx).isSome

end Sys2Proof
end

