-- ==== Sys2Proof/Decode.lean ====
section
/-!
DEFINITION. The command word (30_encoding.md R80 to R89): its fields, the decoder with the checks of R86 items 1 to 3 in
their order, and the encoder. Decoding is total (R88): every word is one command or one named error. Item 4 of R86 (the
operand's range) needs the parameters and stands in the meanings.
-/
namespace Sys2Proof

/-! ## Fields (R80) -/

/-- OP, bits 31:28. -/
def opField (c : Word) : BitVec 4 := c.extractLsb' 28 4

/-- CH, bits 27:26. -/
def chField (c : Word) : BitVec 2 := c.extractLsb' 26 2

/-- RSV, bits 25:24. -/
def rsvField (c : Word) : BitVec 2 := c.extractLsb' 24 2

/-- IMM, bits 23:0. -/
def immField (c : Word) : Imm := c.extractLsb' 0 24

/-- The channel of a CH field; `none` for 3 (R80). -/
def channelOf (ch : BitVec 2) : Option Channel :=
  match ch.toNat with
  | 0 => some .pwm
  | 1 => some .coarse
  | 2 => some .fine
  | _ => none

/-! ## Formats (R81), with the checks of R86 items 2 and 3 -/

/-- Format N: CH, RSV and IMM must all be 0. -/
def decodeN (c : Word) (i : Instr) : Except CmdError Instr :=
  if rsvField c ≠ 0 ∨ chField c ≠ 0 ∨ immField c ≠ 0 then .error .reservedNonzero else .ok i

/-- Format C: RSV must be 0, then CH must not be 3. -/
def decodeC (c : Word) (mk : Channel → Imm → Instr) : Except CmdError Instr :=
  if rsvField c ≠ 0 then .error .reservedNonzero
  else
    match channelOf (chField c) with
    | none    => .error .channelInvalid
    | some ch => .ok (mk ch (immField c))

/-- Format I: CH and RSV must be 0. -/
def decodeI (c : Word) (mk : Imm → Instr) : Except CmdError Instr :=
  if rsvField c ≠ 0 ∨ chField c ≠ 0 then .error .reservedNonzero else .ok (mk (immField c))

/-- The opcode map of R83, and R87 for the illegal values of OP. -/
def decode (c : Word) : Except CmdError Instr :=
  match (opField c).toNat with
  | 0x1 => decodeN c .snap
  | 0x2 => decodeN c .etick
  | 0x3 => decodeN c .eqry
  | 0x4 => decodeC c .pset
  | 0x5 => decodeC c .psetr
  | 0x6 => decodeC c .pr2w
  | 0x7 => decodeC c .pw2r
  | 0x8 => decodeN c .tune
  | 0x9 => decodeI c .stgt
  | 0xA => decodeI c .rdreg
  | _   => .error .illegalOpcode

/-! ## Encoding -/

/-- The CH field of a channel. -/
def channelCode : Channel → BitVec 2
  | .pwm    => 0
  | .coarse => 1
  | .fine   => 2

/-- A word from its fields, RSV zero (R80). -/
def packWord (op : BitVec 4) (ch : BitVec 2) (imm : Imm) : Word := op ++ ch ++ (0 : BitVec 2) ++ imm

/-- The word of a command (R80, R81, R83). -/
def encode : Instr → Word
  | .snap       => packWord 0x1 0 0
  | .etick      => packWord 0x2 0 0
  | .eqry       => packWord 0x3 0 0
  | .pset ch w  => packWord 0x4 (channelCode ch) w
  | .psetr ch r => packWord 0x5 (channelCode ch) r
  | .pr2w ch r  => packWord 0x6 (channelCode ch) r
  | .pw2r ch w  => packWord 0x7 (channelCode ch) w
  | .tune       => packWord 0x8 0 0
  | .stgt t     => packWord 0x9 0 t
  | .rdreg idx  => packWord 0xA 0 idx

/-! ## The host's view -/

/-- The word of `nbits` bits `w`, the bits above `nbits` zero. -/
def tableWord (nbits w : Nat) : Word := BitVec.ofNat 32 (w % 2 ^ nbits)

/-- The command the decoder reads from a word given as the opcode table numbers it. -/
def decodeTableWord (nbits w : Nat) : Option Instr :=
  match decode (tableWord nbits w) with
  | .ok i    => some i
  | .error _ => none

end Sys2Proof
end

