-- ==== Sys2Proof/Machine/State.lean ====
section
/-!
DEFINITION. The state of the block (10_state.md section 7), as plain data, and its reset (70_reset_and_hazards.md R250).
-/
namespace Sys2Proof.Machine

/-- The micro-steps of 40_timer_counter.md R104. Every command other than SNAP and ETICK has the first alone. -/
inductive Phase where
  | s0
  | s1
  | s2
  | s3
  | s4
  | s5
  deriving DecidableEq, Repr

/-- SEQ (10_state.md R41): idle, or the accepted word and the next micro-step of its command. -/
inductive Seq where
  | idle
  | busy (c : Word) (k : Phase)
  deriving DecidableEq, Repr

/-- One serial frame (10_state.md R44, 42_potentiometer.md R152): `b0` is sent first. -/
structure Frame where
  ch : Channel
  b0 : Byte
  b1 : Byte
  deriving DecidableEq, Repr

/-- The machine's state. The names are those of 10_state.md; `agenda` and `draws` are the model's own (log 1, log 20). -/
structure State where
  /-- The instance's parameters (00_scope.md R6, R7, R9). No step writes them. -/
  params   : Params
  /-- Input `rst_n` (R23): false while the block is held in reset. -/
  rstN     : Bool
  /-- Inputs `cmd_valid` and `cmd_word` (R21): the word the host presents, if any. -/
  cmdPort  : Option Word
  /-- Output `rsp_valid` (R21). -/
  rspValid : Bool
  /-- TCNT (R25). -/
  tcnt     : Byte
  /-- EXT (R26). -/
  ext      : Byte
  /-- OVF (R27). -/
  ovf      : Bool
  /-- TOIE (R28). -/
  toie     : Bool
  /-- LOSTOVF (R29). -/
  lostOvf  : Bool
  /-- The latch L1 (R30). -/
  l1       : Byte
  /-- The latch E (R30). -/
  eLatch   : Byte
  /-- The latch L2 (R30). -/
  l2       : Byte
  /-- SNAP (R31). -/
  snap     : Half
  /-- RING[0], RING[1], ... (R33). -/
  ring     : List Half
  /-- CUR (R34). -/
  cur      : BitVec 12
  /-- PREV (R35). -/
  prev     : Half
  /-- FREQ (R36), zero-extended to 32 bits (log 13). -/
  freq     : Word
  /-- WIPER[ch] (R37). -/
  wiper    : PerChannel Byte
  /-- DEV[ch], held in the devices (R38). -/
  dev      : PerChannel Byte
  /-- TARGET (R39). -/
  target   : Half
  /-- SEQ (R41). -/
  seq      : Seq
  /-- RES (R42). -/
  res      : Word
  /-- STATUS.LAST_ERR (R43); `none` is code 0. -/
  lastErr  : Option CmdError
  /-- STATUS.STICKY (R43). -/
  sticky   : Bool
  /-- FRAMES (R44), oldest first. -/
  frames   : List Frame
  /-- The model's: what the environment has chosen to happen next, in order (log 1). -/
  agenda   : List Event
  /-- The model's: how many free values have been drawn (log 20). -/
  draws    : Nat
  deriving DecidableEq, Repr

/-- A step never stops in a fault: the block has "no fatal paths" and "is always able to step" (60_exceptions.md R234;
log 21). Command errors and lost overflows are recorded in the state (R221, R29). -/
inductive Fault where
  deriving DecidableEq, Repr

/-- Why a step has no meaning. -/
inductive Refusal where
  /-- Raised by an arm of `exec` whose command has no meaning yet; no arm does. Safe. -/
  | notModelled (mnemonic : String)
  deriving DecidableEq, Repr

/-- The state right after reset of a block with the parameters `p` (70_reset_and_hazards.md R250, 10_state.md section 7).
The latches and `DEV[ch]` are free draws (R30, R38; log 7); `rst_n` high, no command presented and `rsp_valid` = 0 are
DESIGN CHOICE (log 8). -/
def State.resetWith (p : Params) : State where
  params   := p
  rstN     := true
  cmdPort  := none
  rspValid := false
  tcnt     := 0x00
  ext      := 0x00
  ovf      := false
  toie     := true
  lostOvf  := false
  l1       := Config.freeByte 0
  eLatch   := Config.freeByte 1
  l2       := Config.freeByte 2
  snap     := 0x0000
  ring     := List.replicate p.cap 0x0000
  cur      := 0
  prev     := 0x0000
  freq     := 0
  wiper    := ⟨p.resetWiperPwm, p.resetWiperCoarse, BitVec.ofNat 8 midScale⟩
  dev      := ⟨Config.freeByte 3, Config.freeByte 4, Config.freeByte 5⟩
  target   := p.resetTarget
  seq      := .idle
  res      := 0x00000000
  lastErr  := none
  sticky   := false
  frames   := []
  agenda   := []
  draws    := 6

/-- The state right after reset, with the parameters of Config.vectorParams (DESIGN CHOICE, log 6). -/
def State.reset : State := State.resetWith Config.vectorParams

end Sys2Proof.Machine
end

