-- ==== Sys2Proof/Machine/Flags.lean ====
section
/-!
DEFINITION. The status word (10_state.md R43), the error codes (60_exceptions.md R220), the result flags of TUNE
(43_tuner.md R185), the outputs of the command port (10_state.md R21) and the derived extended count (R32).
-/
namespace Sys2Proof.Machine

/-- The error codes of 60_exceptions.md R220; 0 is no error. -/
def errCode : Option CmdError → BitVec 4
  | none                  => 0
  | some .illegalOpcode   => 1
  | some .reservedNonzero => 2
  | some .channelInvalid  => 3
  | some .operandRange    => 4

/-- One bit as a vector. -/
def bit (b : Bool) : BitVec 1 := BitVec.ofBool b

/-- STATUS (10_state.md R43): bits 31:7 zero, 6 OVF, 5 TOIE, 4 STICKY, 3:0 LAST_ERR. -/
def statusWord (s : State) : Word :=
  (0 : BitVec 25) ++ bit s.ovf ++ bit s.toie ++ bit s.sticky ++ errCode s.lastErr

/-- RES of a TUNE (43_tuner.md R185): bit 3 CLAMP, bit 2 CROSS, bits 1:0 DIR. -/
def tuneResult (dir : BitVec 2) (cross clamp : Bool) : Word :=
  (0 : BitVec 28) ++ bit clamp ++ bit cross ++ dir

/-- The extended count X (10_state.md R32), a derived quantity, no register. -/
def extCount (s : State) : Half :=
  BitVec.ofNat 16 (256 * s.ext.toNat + 256 * s.ovf.toNat + s.tcnt.toNat)

/-- Output `cmd_ready` (10_state.md R21): SEQ = IDLE and reset not asserted. -/
def cmdReady (s : State) : Bool := s.rstN && decide (s.seq = .idle)

/-- Output `rsp_res` (10_state.md R21): RES while a response is presented. DESIGN CHOICE (log 22): RES also while
`rsp_valid` = 0, where the spec states no value. -/
def rspRes (s : State) : Word := s.res

/-- Output `rsp_err` (10_state.md R21): the code of LAST_ERR while a response is presented. DESIGN CHOICE (log 22): that code
also while `rsp_valid` = 0, where the spec states no value. -/
def rspErr (s : State) : BitVec 4 := errCode s.lastErr

end Sys2Proof.Machine
end

