-- ==== Sys2Proof/Machine/Ops.lean ====
section
/-!
DEFINITION. The named operations over the state: how a command ends (30_encoding.md R85, 60_exceptions.md R221), the
frame generator (42_potentiometer.md R152, R153), the events of the other agents (40_timer_counter.md R100, R102), the
command port (10_state.md R21), reset (70_reset_and_hazards.md R250), the shared snapshot micro-steps (R104) and the ring
(41_frequency_estimator.md R131, R133).
-/
namespace Sys2Proof.Machine

/-- The three outcomes, at this machine's types. -/
abbrev Result := Host.Outcome State Fault Refusal

/-! ## How a command ends -/

/-- `complete(res)` (30_encoding.md R85). -/
def complete (res : Word) (s : State) : State :=
  { s with res := res, lastErr := none, seq := .idle, rspValid := true }

/-- `raise CmdError(code)` (60_exceptions.md R221): nothing but STATUS, SEQ and the response changes. -/
def raiseErr (code : CmdError) (s : State) : State :=
  { s with lastErr := some code, sticky := true, seq := .idle, rspValid := true }

/-- A check of 30_encoding.md R86 made before any effect: the command's rule where it holds, else the error. -/
def checked (legal : Bool) (code : CmdError) (s s' : State) : Result :=
  .next (if legal then s' else raiseErr code s)

/-! ## Frames -/

/-- `emit Frame(ch, 0x00, w)` with its mirror update: one atomic event (42_potentiometer.md R152, R153; DEV: 10_state.md
R38). -/
def sendWiper (ch : Channel) (w : Byte) (s : State) : State :=
  { s with
    wiper  := chSet s.wiper ch w
    dev    := chSet s.dev ch w
    frames := s.frames ++ [{ ch := ch, b0 := potCommandByte, b1 := w }] }

/-- `cs_n[2:0]` with every line high, as between any two micro-steps (10_state.md R22). -/
def csIdle : BitVec 3 := 0b111

/-- `cs_n[2:0]` during a frame on `ch`: that line low (10_state.md R22). -/
def csDuring : Channel → BitVec 3
  | .pwm    => 0b110
  | .coarse => 0b101
  | .fine   => 0b011

/-- The 16 bits of a frame, `{b0, b1}` (20_memory.md R62). -/
def frameWord (f : Frame) : Half := f.b0 ++ f.b1

/-- The bits on `mosi` in time order, bit 15 first (20_memory.md R62). -/
def frameBits (f : Frame) : List Bool :=
  (List.range 16).map fun n => (frameWord f).getLsbD (15 - n)

/-- The serial port over one frame (42_potentiometer.md R152): `cs_n` and, while a bit is shifted, `mosi`. -/
def frameLines (f : Frame) : List (BitVec 3 × Option Bool) :=
  (csDuring f.ch, none) :: (frameBits f).map (fun b => (csDuring f.ch, some b)) ++ [(csIdle, none)]

/-- The serial port since reset. -/
def serialLines (s : State) : List (BitVec 3 × Option Bool) := s.frames.flatMap frameLines

/-- `cs_n[2:0]` in a state, that is between two micro-steps: as the last frame left it, all high before the first
(10_state.md R22). -/
def csLines (s : State) : BitVec 3 :=
  match (serialLines s).getLast? with
  | some l => l.1
  | none   => csIdle

/-! ## The other agents -/

/-- PULSE (40_timer_counter.md R100). -/
def pulse (s : State) : State :=
  if s.tcnt = 0xFF then
    { s with tcnt := 0x00, lostOvf := s.lostOvf || s.ovf, ovf := true }
  else
    { s with tcnt := s.tcnt + 1 }

/-- SERVICE, the overflow interrupt taken: one atomic step, nothing saved, no return (40_timer_counter.md R102,
60_exceptions.md R226, R227). -/
def service (s : State) : State := { s with ext := s.ext + 1, ovf := false }

/-- SERVICE is enabled exactly when OVF = 1 and TOIE = 1 (40_timer_counter.md R102). -/
def serviceEnabled (s : State) : Bool := s.ovf && s.toie

/-- Acceptance of the word `c`: SEQ <- (c, first) (30_encoding.md R84); `rsp_valid` ends (10_state.md R21); the host's
word is taken from the port, so that it is executed once (20_memory.md R75; log 3). -/
def acceptWord (c : Word) (s : State) : State :=
  { s with seq := .busy c .s0, cmdPort := none, rspValid := false }

/-- The handshake micro-step. -/
def acceptCmd (s : State) : State :=
  match s.cmdPort with
  | some c => acceptWord c s
  | none   => s

/-- The host drives the command port (10_state.md R21; log 16). -/
def driveCmd (cmd : Option Word) (s : State) : State := { s with cmdPort := cmd }

/-- A device comes to hold another wiper without a frame (42_potentiometer.md R161; log 10). -/
def setDevice (ch : Channel) (w : Byte) (s : State) : State := { s with dev := chSet s.dev ch w }

/-- `rst_n` driven low: every piece of the block's state takes its reset value (70_reset_and_hazards.md R250); the
devices keep their wipers (R251); the latches are drawn afresh (log 7); the inputs are the outside's (log 9). -/
def assertReset (s : State) : State :=
  { State.resetWith s.params with
    rstN    := false
    cmdPort := s.cmdPort
    dev     := s.dev
    l1      := Config.freeByte s.draws
    eLatch  := Config.freeByte (s.draws + 1)
    l2      := Config.freeByte (s.draws + 2)
    draws   := s.draws + 3
    agenda  := s.agenda }

/-- `rst_n` driven to a level (10_state.md R23). -/
def driveRst (level : Bool) (s : State) : State :=
  if level then { s with rstN := true } else assertReset s

/-! ## The schedule -/

/-- What happens next: the head of the agenda, or a free draw (log 1). -/
def nextEvent (s : State) : Event :=
  match s.agenda with
  | ev :: _ => ev
  | []      => Config.freeEvent s.draws

/-- The state once that choice is taken. -/
def dropEvent (s : State) : State :=
  match s.agenda with
  | _ :: evs => { s with agenda := evs }
  | []       => { s with draws := s.draws + 1 }

/-- Whether an event is possible (20_memory.md R71; in reset no agent steps, 70_reset_and_hazards.md R250). -/
def enabled (ev : Event) (s : State) : Bool :=
  match ev with
  | .pulseIn e  => s.rstN && decide (e = s.params.edge)
  | .service    => s.rstN && serviceEnabled s
  | .accept     => cmdReady s && s.cmdPort.isSome
  | .seq        => s.rstN && decide (s.seq ≠ .idle)
  | .host _     => true
  | .device _ _ => true
  | .rst _      => true

/-- The effect of an enabled event other than a micro-step of SEQ. -/
def fire (ev : Event) (s : State) : State :=
  match ev with
  | .pulseIn _   => pulse s
  | .service     => service s
  | .accept      => acceptCmd s
  | .seq         => s
  | .host cmd    => driveCmd cmd s
  | .device ch w => setDevice ch w s
  | .rst level   => driveRst level s

/-! ## The snapshot (40_timer_counter.md R104) -/

/-- The phase of SEQ; a command's first micro-step where none is in progress (log 15). -/
def phaseOf (q : Seq) : Phase :=
  match q with
  | .idle     => .s0
  | .busy _ k => k

/-- The value of an accepted attempt, `{E, L1}` (20_memory.md R61). -/
def snapshotValue (s : State) : Half := s.eLatch ++ s.l1

/-- TOIE <- 1 and SNAP <- S, the part of S5 that SNAP and ETICK share. -/
def acceptSnapshot (s : State) : State := { s with toie := true, snap := snapshotValue s }

/-- The micro-steps S0 to S4 shared by SNAP and ETICK (R104, R131); `finish` is S5. `c` is the command's word. The check
of S0 is the decoder's (R86). -/
def snapshotStep (c : Word) (finish : State → State) (s : State) : State :=
  match phaseOf s.seq with
  | .s0 => { s with toie := false, seq := .busy c .s1 }
  | .s1 => { s with l1 := s.tcnt, seq := .busy c .s2 }
  | .s2 => { s with eLatch := s.ext, seq := .busy c .s3 }
  | .s3 => { s with l2 := s.tcnt, seq := .busy c .s4 }
  | .s4 => { s with seq := .busy c (if s.l1 ≠ s.l2 then .s1 else .s5) }
  | .s5 => finish s

/-! ## The ring (41_frequency_estimator.md) -/

/-- The delta of a tick, `(S - PREV) mod 2^16` (R131). -/
def tickDelta (s : State) : Half := snapshotValue s - s.prev

/-- RING[CUR] <- d, PREV <- S, CUR <- (CUR + 1) mod CAP (R131). -/
def recordTick (s : State) : State :=
  { s with
    ring := s.ring.set s.cur.toNat (tickDelta s)
    prev := snapshotValue s
    cur  := BitVec.ofNat 12 ((s.cur.toNat + 1) % s.params.cap) }

/-- The exact sum of the window (R133). -/
def windowSum (s : State) : Nat := (s.ring.map BitVec.toNat).sum

/-- The sum modulo 2^SUM_WIDTH (R133). -/
def windowFreq (s : State) : Word := BitVec.ofNat 32 (windowSum s % 2 ^ sumBits s.params)

end Sys2Proof.Machine
end

