-- ==== Sys2Proof/Machine/Estimator.lean ====
section
/-!
DEFINITION. ETICK and EQRY (41_frequency_estimator.md R131, R133).
-/
namespace Sys2Proof.Machine

/-- One micro-step of ETICK (R131). -/
def execEtick (s : State) : Result :=
  .next (snapshotStep (encode .etick)
    (fun u => complete ((tickDelta u).setWidth 32) (recordTick (acceptSnapshot u))) s)

/-- EQRY (R133), one micro-step. -/
def execEqry (s : State) : Result :=
  .next (complete (windowFreq s) { s with freq := windowFreq s })

end Sys2Proof.Machine
end

