-- ==== Sys2Proof/Machine/Potentiometer.lean ====
section
/-!
DEFINITION. PSET, PSETR, PR2W, PW2R (42_potentiometer.md R155 to R158), one micro-step each; the operand's range is
checked before any effect (30_encoding.md R86).
-/
namespace Sys2Proof.Machine

/-- PSET (R155). -/
def execPset (ch : Channel) (w : Imm) (s : State) : Result :=
  checked (wiperLegal s.params ch w) .operandRange s
    (complete (w.setWidth 32) (sendWiper ch (w.setWidth 8) s))

/-- PSETR (R156). -/
def execPsetr (ch : Channel) (r : Imm) (s : State) : Result :=
  let w := r2w s.params ch r.toNat
  checked (resistanceLegal s.params ch r) .operandRange s
    (complete (BitVec.ofNat 32 w) (sendWiper ch (BitVec.ofNat 8 w) s))

/-- PR2W (R157). -/
def execPr2w (ch : Channel) (r : Imm) (s : State) : Result :=
  checked (resistanceLegal s.params ch r) .operandRange s
    (complete (BitVec.ofNat 32 (r2w s.params ch r.toNat)) s)

/-- PW2R (R158). -/
def execPw2r (ch : Channel) (w : Imm) (s : State) : Result :=
  checked (wiperLegal s.params ch w) .operandRange s
    (complete (BitVec.ofNat 32 (w2r s.params ch w.toNat)) s)

end Sys2Proof.Machine
end

