-- ==== Sys2Proof/Machine/RegisterAccess.lean ====
section
/-!
DEFINITION. RDREG (44_register_access.md R200 to R203).
-/
namespace Sys2Proof.Machine

/-- The value of a register of the index map, zero-extended (R200, R202; 20_memory.md R63). A ring entry beyond the list
(no legal state has one) reads as 0 (log 14). -/
def readReg (s : State) : Reg → Word
  | .status   => statusWord s
  | .snap     => s.snap.setWidth 32
  | .freq     => s.freq
  | .prev     => s.prev.setWidth 32
  | .cur      => s.cur.setWidth 32
  | .target   => s.target.setWidth 32
  | .wiper ch => (chGet s.wiper ch).setWidth 32
  | .tcnt     => s.tcnt.setWidth 32
  | .ext      => s.ext.setWidth 32
  | .cap      => BitVec.ofNat 32 s.params.cap
  | .ring i   => (s.ring.getD i 0).setWidth 32

/-- RDREG (R201): the value is read before the command's own completion. -/
def execRdreg (idx : Imm) (s : State) : Result :=
  match regAt s.params idx with
  | some r => .next (complete (readReg s r) s)
  | none   => .next (raiseErr .operandRange s)

end Sys2Proof.Machine
end

