-- ==== Sys2Proof/Machine/Timer.lean ====
section
/-!
DEFINITION. SNAP (40_timer_counter.md R104).
-/
namespace Sys2Proof.Machine

/-- One micro-step of SNAP (R104). -/
def execSnap (s : State) : Result :=
  .next (snapshotStep (encode .snap)
    (fun u => complete ((snapshotValue u).setWidth 32) (acceptSnapshot u)) s)

end Sys2Proof.Machine
end

