-- ==== Sys2Proof/Machine/Tuner.lean ====
section
/-!
DEFINITION. STGT and TUNE (43_tuner.md R180 to R193).
-/
namespace Sys2Proof.Machine

/-- What a TUNE that moves the fine wiper does (R185). -/
structure TuneMove where
  dir    : BitVec 2
  cross  : Bool
  clamp  : Bool
  fine   : Byte
  coarse : Byte
  deriving DecidableEq, Repr

/-- The guard check and the carry (R185), from the direction, the stepped fine value `f` (an integer: no 8-bit wrap, D25)
and the coarse wiper `k0`. -/
def tuneCarry (p : Params) (dir : BitVec 2) (f : Int) (k0 : Byte) : TuneMove :=
  if f < guardLo then
    { dir := dir, cross := true, clamp := decide (¬ 0 < k0.toNat)
      fine := BitVec.ofNat 8 midScale, coarse := if 0 < k0.toNat then k0 - 1 else k0 }
  else if guardHi < f then
    { dir := dir, cross := true, clamp := decide (¬ k0.toNat < stepsOf p .coarse - 1)
      fine := BitVec.ofNat 8 midScale, coarse := if k0.toNat < stepsOf p .coarse - 1 then k0 + 1 else k0 }
  else
    { dir := dir, cross := false, clamp := false, fine := BitVec.ofNat 8 f.toNat, coarse := k0 }

/-- The relay step (R180, R185): `none` when FREQ = TARGET. The comparison is of unsigned numbers (R181). -/
def tuneMove (s : State) : Option TuneMove :=
  if s.freq.toNat = s.target.toNat then none
  else if s.target.toNat < s.freq.toNat then
    some (tuneCarry s.params 1 ((s.wiper.fine.toNat : Int) - 1) s.wiper.coarse)
  else
    some (tuneCarry s.params 2 ((s.wiper.fine.toNat : Int) + 1) s.wiper.coarse)

/-- The coarse frame, sent only where the coarse wiper changes (R185). -/
def sendCoarse (k1 : Byte) (s : State) : State :=
  if k1 ≠ s.wiper.coarse then sendWiper .coarse k1 s else s

/-- The frames of a moving TUNE, in the order TUNE_FRAME_ORDER (R185, 70_reset_and_hazards.md R273). -/
def tuneFrames (m : TuneMove) (s : State) : State :=
  match s.params.frameOrder with
  | .fineFirst   => sendCoarse m.coarse (sendWiper .fine m.fine s)
  | .coarseFirst => sendWiper .fine m.fine (sendCoarse m.coarse s)

/-- TUNE (R185). -/
def execTune (s : State) : Result :=
  match tuneMove s with
  | none   => .next (complete 0 s)
  | some m => .next (complete (tuneResult m.dir m.cross m.clamp) (tuneFrames m s))

/-- STGT (R183). -/
def execStgt (t : Imm) (s : State) : Result :=
  checked (targetLegal t) .operandRange s
    (complete (t.setWidth 32) { s with target := t.setWidth 16 })

end Sys2Proof.Machine
end

