-- ==== Sys2Proof/Machine/Dispatch.lean ====
section
/-!
DEFINITION. One arm per command of 30_encoding.md R83. `exec i s` is ONE micro-step of command `i` (R66, R84): for SNAP
and ETICK the one SEQ names, for every other command its only one.
-/
namespace Sys2Proof.Machine

def exec (i : Instr) (s : State) : Host.Outcome State Fault Refusal :=
  match i with
  | .snap => Sys2Proof.Machine.execSnap s
  | .etick => Sys2Proof.Machine.execEtick s
  | .eqry => Sys2Proof.Machine.execEqry s
  | .pset ch w => Sys2Proof.Machine.execPset ch w s
  | .psetr ch r => Sys2Proof.Machine.execPsetr ch r s
  | .pr2w ch r => Sys2Proof.Machine.execPr2w ch r s
  | .pw2r ch w => Sys2Proof.Machine.execPw2r ch w s
  | .tune => Sys2Proof.Machine.execTune s
  | .stgt t => Sys2Proof.Machine.execStgt t s
  | .rdreg idx => Sys2Proof.Machine.execRdreg idx s

end Sys2Proof.Machine
end

