-- ==== Sys2Proof/Machine/Sequencer.lean ====
section
/-!
DEFINITION. The sequencer's micro-step (30_encoding.md R84) and the machine's answer to one event (20_memory.md R71).
-/
namespace Sys2Proof.Machine

/-- The word of the command in progress, if any (10_state.md R41). -/
def commandWord (s : State) : Option Word :=
  match s.seq with
  | .idle     => none
  | .busy c _ => some c

/-- One micro-step of SEQ (R84): the checks, then the command's rule; a failed check ends the command (60_exceptions.md
R221). The word is decoded at every micro-step, which changes nothing after the first (log 15). -/
def seqStep (s : State) : Result :=
  match commandWord s with
  | none   => .next s
  | some c =>
    match decode c with
    | .error code => .next (raiseErr code s)
    | .ok i       => exec i s

/-- The answer to one event: its effect where it is enabled, else nothing (log 2). -/
def react (ev : Event) (s : State) : Result :=
  if enabled ev s then
    match ev with
    | .seq => seqStep s
    | ev   => .next (fire ev s)
  else .next s

end Sys2Proof.Machine
end

