-- ==== Sys2Proof/Machine/Step.lean ====
section
/-!
DEFINITION. One step of the machine: the next event and the answer to it.
-/
namespace Sys2Proof.Machine

/-- One atomic micro-step of one agent, or one change of an input (00_scope.md R4). -/
def step (s : State) : Host.Outcome State Fault Refusal := react (nextEvent s) (dropEvent s)

/-- The state in which the given word has just been accepted and SEQ moves next, so that the next step is the first
micro-step of its command (log 17): it stands for the host's presenting the word and the block's accepting it. -/
def State.withFetchWord (s : State) (nbits w : Nat) : State :=
  { acceptWord (tableWord nbits w) s with rstN := true, agenda := .seq :: s.agenda }

end Sys2Proof.Machine
end

