-- ==== Sys2Proof/Machine/Assembler.lean ====
section
/-!
DEFINITION. Assembler lines and pseudo-instructions (30_encoding.md R90, R91), from a line's parts to command words. The
text of a line (blanks, comments, decimal or 0x spelling) is not modelled (log 18).
-/
namespace Sys2Proof.Machine

/-- A channel as a line gives it: by name, or by number (R90). -/
inductive AsmChannel where
  | name (ch : Channel)
  | number (n : Nat)
  deriving DecidableEq, Repr

/-- A line of R90, or a pseudo-instruction of R91. -/
inductive AsmLine where
  | snap
  | etick
  | eqry
  | tune
  | pset (ch : AsmChannel) (imm : Nat)
  | psetr (ch : AsmChannel) (imm : Nat)
  | pr2w (ch : AsmChannel) (imm : Nat)
  | pw2r (ch : AsmChannel) (imm : Nat)
  | stgt (imm : Nat)
  | rdreg (imm : Nat)
  /-- The source's per-tick sequence (R91). -/
  | tick
  | rdwiper (ch : AsmChannel)
  | rdfreq
  deriving DecidableEq, Repr

/-- The number of a channel, 0, 1 or 2 (R90). -/
def asmChannelNumber : AsmChannel → Option Nat
  | .name .pwm    => some 0
  | .name .coarse => some 1
  | .name .fine   => some 2
  | .number n     => if n < 3 then some n else none

/-- `c = (OP << 28) | (ch << 26) | imm`; an immediate outside [0, 2^24 - 1] is refused (R90). -/
def lineWord (op ch imm : Nat) : Option Word :=
  if imm < 2 ^ 24 then some (BitVec.ofNat 32 ((op <<< 28) ||| (ch <<< 26) ||| imm)) else none

/-- The word of a format C line. -/
def lineWordC (op : Nat) (ch : AsmChannel) (imm : Nat) : Option Word :=
  (asmChannelNumber ch).bind fun n => lineWord op n imm

/-- The words of a line (R90), or of a pseudo-instruction's expansion (R91). -/
def assemble : AsmLine → Option (List Word)
  | .snap         => (lineWord 0x1 0 0).map fun c => [c]
  | .etick        => (lineWord 0x2 0 0).map fun c => [c]
  | .eqry         => (lineWord 0x3 0 0).map fun c => [c]
  | .pset ch imm  => (lineWordC 0x4 ch imm).map fun c => [c]
  | .psetr ch imm => (lineWordC 0x5 ch imm).map fun c => [c]
  | .pr2w ch imm  => (lineWordC 0x6 ch imm).map fun c => [c]
  | .pw2r ch imm  => (lineWordC 0x7 ch imm).map fun c => [c]
  | .tune         => (lineWord 0x8 0 0).map fun c => [c]
  | .stgt imm     => (lineWord 0x9 0 imm).map fun c => [c]
  | .rdreg imm    => (lineWord 0xA 0 imm).map fun c => [c]
  | .tick         => some [encode .etick, encode .eqry, encode .tune]
  | .rdwiper ch   => (asmChannelNumber ch).bind fun n => (lineWord 0xA 0 (0x06 + n)).map fun c => [c]
  | .rdfreq       => (lineWord 0xA 0 0x02).map fun c => [c]

end Sys2Proof.Machine
end

