-- ==== Sys2Proof/Safety.lean ====
section
/-!
DEFINITION. The terms claims are stated in: the invariant of the block, a clean run (60_exceptions.md R235), runs over a
list of events, and the history of ETICK snapshots against which the ring is read (41_frequency_estimator.md R134).
-/
namespace Sys2Proof.Safety

open Sys2Proof.Machine

/-! ## Clean states -/

/-- Nothing has gone wrong in the run (60_exceptions.md R222, R235). -/
def Clean (s : State) : Prop := s.sticky = false ∧ s.lostOvf = false

/-! ## The invariant -/

/-- The micro-steps between S0 and S5, where TOIE is 0 (40_timer_counter.md R105). -/
def inCritical (q : Seq) : Bool :=
  match q with
  | .idle      => false
  | .busy _ .s0 => false
  | .busy _ _  => true

/-- A command beyond its first micro-step is SNAP or ETICK (10_state.md R41). -/
def phaseLegal (q : Seq) : Prop :=
  match q with
  | .idle       => True
  | .busy _ .s0 => True
  | .busy c _   => decode c = .ok .snap ∨ decode c = .ok .etick

/-- What the latches hold inside an attempt (40_timer_counter.md R106): from S3 on, E = EXT; at S5, L1 = L2. -/
def latchesLegal (s : State) : Prop :=
  match s.seq with
  | .busy _ .s3 => s.eLatch = s.ext
  | .busy _ .s4 => s.eLatch = s.ext
  | .busy _ .s5 => s.eLatch = s.ext ∧ s.l1 = s.l2
  | _           => True

/-- The invariant of the block, each clause a statement of the spec about every reachable state. -/
structure Inv (s : State) : Prop where
  /-- 00_scope.md R6, R7, R9. -/
  params    : s.params.Legal
  /-- 10_state.md R33: CAP entries. -/
  ring      : s.ring.length = s.params.cap
  /-- 10_state.md R34: CUR in [0, CAP - 1]. -/
  cur       : s.cur.toNat < s.params.cap
  /-- 10_state.md R36: FREQ has SUM_WIDTH bits. -/
  freq      : s.freq.toNat < 2 ^ sumBits s.params
  /-- 10_state.md R37: WIPER[ch] < STEPS[ch]. -/
  wiper     : ∀ ch, (chGet s.wiper ch).toNat < stepsOf s.params ch
  /-- 10_state.md R39: TARGET in its bounds. -/
  target    : 20000 ≤ s.target.toNat ∧ s.target.toNat ≤ 35000
  /-- 40_timer_counter.md R105: TOIE = 0 exactly between S0 and S5. -/
  toie      : s.toie = !inCritical s.seq
  /-- 10_state.md R41. -/
  phase     : phaseLegal s.seq
  /-- 40_timer_counter.md R106. -/
  latches   : latchesLegal s
  /-- 10_state.md R21: a response is presented only until the next command is accepted. -/
  response  : s.rspValid = true → s.seq = .idle
  /-- 70_reset_and_hazards.md R250: nothing is in progress in reset. -/
  held      : s.rstN = false → s.seq = .idle

/-! ## Runs over chosen events -/

/-- The state after the given events, one micro-step each; `none` if a step stops. -/
def after : List Event → State → Option State
  | [], s        => some s
  | ev :: evs, s =>
    match react ev s with
    | .next t => after evs t
    | _       => none

/-- An event of an agent other than SEQ, outside reset. -/
def isOther (ev : Event) : Bool :=
  match ev with
  | .seq   => false
  | .rst _ => false
  | _      => true

/-- How many of the events are edges of the counted polarity, that is PULSE steps (10_state.md R20). -/
def countedEdges (p : Params) (evs : List Event) : Nat :=
  evs.countP fun ev => decide (ev = .pulseIn p.edge)

/-! ## The history of ticks -/

/-- This step is the completing micro-step S5 of an ETICK (41_frequency_estimator.md R131). -/
def completesTick (ev : Event) (s : State) : Bool :=
  match ev, s.seq with
  | .seq, .busy c .s5 => s.rstN && decide (c = encode .etick)
  | _, _              => false

/-- The snapshots of the ETICKs since reset, oldest first, after one more event. -/
def snapsAfter (ev : Event) (s : State) (snaps : List Half) : List Half :=
  if ev = .rst false then []
  else if completesTick ev s then snaps ++ [snapshotValue s]
  else snaps

/-- Consecutive differences modulo 2^16, the value before the first given. -/
def diffs (before : Half) : List Half → List Half
  | []      => []
  | x :: xs => (x - before) :: diffs x xs

/-- The deltas of the ticks with these snapshots; PREV is 0 at reset (41_frequency_estimator.md R135). -/
def deltas (snaps : List Half) : List Half := diffs 0 snaps

/-- The last `n` entries of a list. -/
def lastN {α : Type} (n : Nat) (l : List α) : List α := l.drop (l.length - n)

/-- S_k of 41_frequency_estimator.md R135: the snapshot of the k-th ETICK, and 0 for k ≤ 0. -/
def snapAt (snaps : List Half) (k : Int) : Half :=
  if 1 ≤ k then snaps.getD (k.toNat - 1) 0 else 0

/-- The estimator's state is that of a block whose ETICKs since reset took these snapshots: PREV the last one, CUR their
number modulo CAP, and, `j` places behind the cursor, the `j`-th latest delta, or 0 where there is none (R131, R134). -/
structure Window (snaps : List Half) (s : State) : Prop where
  prev   : s.prev = snaps.getLastD 0
  length : s.ring.length = s.params.cap
  cur    : s.cur.toNat = snaps.length % s.params.cap
  entry  : ∀ j, j < s.params.cap →
    s.ring.getD ((snaps.length + s.params.cap - 1 - j) % s.params.cap) 0 = (deltas snaps).reverse.getD j 0

/-- The runs of a block with legal parameters, from reset, under any agenda: `History snaps s` when some run ends in `s`
and its ETICKs since the last reset took the snapshots `snaps`. -/
inductive History : List Half → State → Prop where
  | reset (p : Params) (agenda : List Event) (legal : p.Legal) :
      History [] { State.resetWith p with agenda := agenda }
  | step {snaps : List Half} {s t : State} (run : History snaps s) (moved : step s = .next t) :
      History (snapsAfter (nextEvent s) s snaps) t

end Sys2Proof.Safety
end

