-- ==== Sys2Proof/Certificates/Slice0/Obligations.lean ====
section
/-!
DEFINITION. The statements for the provers, from the numbered rules of spec/. The words they use that are not the
model's stand first, written from the spec and in numbers where the model uses bit vectors.
-/
namespace Sys2Proof.Claims

open Sys2Proof.Machine Sys2Proof.Safety

/-! ## Words and fields as numbers (30_encoding.md R80) -/

/-- OP. -/
def opOf (c : Word) : Nat := c.toNat / 2 ^ 28

/-- CH. -/
def chOf (c : Word) : Nat := c.toNat / 2 ^ 26 % 4

/-- RSV. -/
def rsvOf (c : Word) : Nat := c.toNat / 2 ^ 24 % 4

/-- IMM. -/
def immOf (c : Word) : Nat := c.toNat % 2 ^ 24

/-- The word with these fields, RSV zero. -/
def word (op ch imm : Nat) : Word := BitVec.ofNat 32 (op * 2 ^ 28 + ch * 2 ^ 26 + imm)

/-- The number of a channel (00_scope.md R7). -/
def chNum : Channel → Nat
  | .pwm    => 0
  | .coarse => 1
  | .fine   => 2

/-- Format N (R81, R83). -/
abbrev formatN (op : Nat) : Prop := op = 1 ∨ op = 2 ∨ op = 3 ∨ op = 8

/-- Format C. -/
abbrev formatC (op : Nat) : Prop := 4 ≤ op ∧ op ≤ 7

/-- Format I. -/
abbrev formatI (op : Nat) : Prop := op = 9 ∨ op = 0xA

/-- Item 4 of 30_encoding.md R86, on the word's fields. -/
abbrev outOfRange (p : Params) (c : Word) : Prop :=
  ((opOf c = 4 ∨ opOf c = 7) ∧
    ∃ ch, chNum ch = chOf c ∧ stepsOf p ch ≤ immOf c) ∨
  ((opOf c = 5 ∨ opOf c = 6) ∧
    ∃ ch, chNum ch = chOf c ∧ maxROf p ch < immOf c) ∨
  (opOf c = 9 ∧ (immOf c < 20000 ∨ 35000 < immOf c)) ∨
  (opOf c = 0xA ∧ ¬ (immOf c ≤ 0xB ∨ (0x1000 ≤ immOf c ∧ immOf c < 0x1000 + p.cap)))

/-- The words of a format N command: one legal word, every other with that OP is RESERVED_NONZERO. -/
def FormatNWords (op : Nat) (i : Instr) : Prop :=
  decode (word op 0 0) = .ok i ∧
  ∀ c, opOf c = op → c ≠ word op 0 0 → decode c = .error .reservedNonzero

/-- The words of a format C command, and its two errors before the operand's range. -/
def FormatCWords (op : Nat) (mk : Channel → Imm → Instr) : Prop :=
  (∀ ch (v : Imm), decode (word op (chNum ch) v.toNat) = .ok (mk ch v)) ∧
  (∀ c, opOf c = op → rsvOf c ≠ 0 → decode c = .error .reservedNonzero) ∧
  (∀ c, opOf c = op → rsvOf c = 0 → chOf c = 3 → decode c = .error .channelInvalid)

/-- The words of a format I command, and its error before the operand's range. -/
def FormatIWords (op : Nat) (mk : Imm → Instr) : Prop :=
  (∀ v : Imm, decode (word op 0 v.toNat) = .ok (mk v)) ∧
  (∀ c, opOf c = op → chOf c ≠ 0 ∨ rsvOf c ≠ 0 → decode c = .error .reservedNonzero)

/-! ## How a command ends, and what it sends -/

/-- `complete(res)` (30_encoding.md R85). -/
def completed (res : Word) (s : State) : State :=
  { s with res := res, lastErr := none, seq := .idle, rspValid := true }

/-- `raise CmdError(code)` (60_exceptions.md R221). -/
def errored (code : CmdError) (s : State) : State :=
  { s with lastErr := some code, sticky := true, seq := .idle, rspValid := true }

/-- The code of an error (60_exceptions.md R220). -/
def codeNum : Option CmdError → Nat
  | none                  => 0
  | some .illegalOpcode   => 1
  | some .reservedNonzero => 2
  | some .channelInvalid  => 3
  | some .operandRange    => 4

/-- A frame (ch, 0x00, w) is sent, the mirror and the device hold w (42_potentiometer.md R152, R153). -/
def sent (ch : Channel) (w : Byte) (s : State) : State :=
  { s with wiper := chSet s.wiper ch w, dev := chSet s.dev ch w, frames := s.frames ++ [⟨ch, 0x00, w⟩] }

/-- The wiper byte of the last of the frames on a channel, or `d` where there is none. -/
def lastSent (fs : List Frame) (ch : Channel) (d : Byte) : Byte :=
  match (fs.filter fun f => decide (f.ch = ch)).getLast? with
  | some f => f.b1
  | none   => d

/-- `rnd(a, b)` (00_scope.md R11). -/
def halfUp (a b : Nat) : Nat := (2 * a + b) / (2 * b)

/-- R2W by its formula (42_potentiometer.md R150). -/
def r2wNum (p : Params) (ch : Channel) (r : Nat) : Nat :=
  min (halfUp (r * stepsOf p ch) (maxROf p ch)) (stepsOf p ch - 1)

/-- W2R by its formula (42_potentiometer.md R151). -/
def w2rNum (p : Params) (ch : Channel) (w : Nat) : Nat := halfUp (w * maxROf p ch) (stepsOf p ch)

/-! ## The snapshot -/

/-- The word of a snapshotting command: SNAP or ETICK. -/
abbrev snapshotting (c : Word) : Prop := c = word 0x1 0 0 ∨ c = word 0x2 0 0

/-- {E, L1} as a number (20_memory.md R61). -/
def latchNum (s : State) : Nat := 256 * s.eLatch.toNat + s.l1.toNat

/-- One attempt of a snapshot from its S1 on: S1, S2, S3, S4, and what the other agents do after each. -/
def attempt (o1 o2 o3 o4 : List Event) : List Event :=
  [.seq] ++ o1 ++ [.seq] ++ o2 ++ [.seq] ++ o3 ++ [.seq] ++ o4

/-- A PULSE step of a block with these parameters. -/
def pulseEvent (p : Params) : Event := .pulseIn p.edge

/-! ## The tuner (43_tuner.md R185), from its pseudocode -/

/-- The state after a TUNE. -/
def tuned (s : State) : State :=
  let m := s.freq.toNat
  let t := s.target.toNat
  let k0 := s.wiper.coarse.toNat
  let dir := if t < m then 1 else 2
  let f : Int := if t < m then (s.wiper.fine.toNat : Int) - 1 else (s.wiper.fine.toNat : Int) + 1
  let cross := decide (f < 28 ∨ 228 < f)
  let f1 := if cross then 128 else f.toNat
  let k1 := if f < 28 then (if 0 < k0 then k0 - 1 else k0)
            else if 228 < f then (if k0 < stepsOf s.params .coarse - 1 then k0 + 1 else k0)
            else k0
  let clamp := cross && decide (k1 = k0)
  let fineFrame : Frame := ⟨.fine, 0x00, BitVec.ofNat 8 f1⟩
  let coarseFrames : List Frame := if k1 = k0 then [] else [⟨.coarse, 0x00, BitVec.ofNat 8 k1⟩]
  if m = t then completed 0 s
  else completed (BitVec.ofNat 32 (dir + 4 * cross.toNat + 8 * clamp.toNat))
    { s with
      wiper := { s.wiper with fine := BitVec.ofNat 8 f1, coarse := BitVec.ofNat 8 k1 }
      dev := { s.dev with
        fine := BitVec.ofNat 8 f1
        coarse := if k1 = k0 then s.dev.coarse else BitVec.ofNat 8 k1 }
      frames := s.frames ++
        (match s.params.frameOrder with
          | .fineFirst   => fineFrame :: coarseFrames
          | .coarseFirst => coarseFrames ++ [fineFrame]) }

/-- TUNE commands one after another, each finding the next of the given values in FREQ. -/
def tunesAt : List Word → State → Option State
  | [], s         => some s
  | freq :: fs, s =>
    match exec .tune { s with freq := freq } with
    | .next t => tunesAt fs t
    | _       => none

/-! ## Registers -/

/-- STATUS as a number (10_state.md R43). -/
def statusNum (s : State) : Nat :=
  codeNum s.lastErr + 16 * s.sticky.toNat + 32 * s.toie.toNat + 64 * s.ovf.toNat

/-- The register of an index as a number; `none` outside the map (44_register_access.md R200). -/
def registerNum (s : State) (n : Nat) : Option Nat :=
  match n with
  | 0x0 => some (statusNum s)
  | 0x1 => some s.snap.toNat
  | 0x2 => some s.freq.toNat
  | 0x3 => some s.prev.toNat
  | 0x4 => some s.cur.toNat
  | 0x5 => some s.target.toNat
  | 0x6 => some s.wiper.pwm.toNat
  | 0x7 => some s.wiper.coarse.toNat
  | 0x8 => some s.wiper.fine.toNat
  | 0x9 => some s.tcnt.toNat
  | 0xA => some s.ext.toNat
  | 0xB => some s.params.cap
  | n   => if 0x1000 ≤ n ∧ n < 0x1000 + s.params.cap then some (s.ring.getD (n - 0x1000) 0).toNat else none

/-- Every register whose reset value 70_reset_and_hazards.md R250 states holds it. -/
structure AtReset (s : State) : Prop where
  tcnt    : s.tcnt = 0x00
  ext     : s.ext = 0x00
  ovf     : s.ovf = false
  toie    : s.toie = true
  lostOvf : s.lostOvf = false
  snap    : s.snap = 0x0000
  ring    : s.ring = List.replicate s.params.cap 0x0000
  cur     : s.cur = 0
  prev    : s.prev = 0x0000
  freq    : s.freq = 0
  wiper   : s.wiper = ⟨s.params.resetWiperPwm, s.params.resetWiperCoarse, 128⟩
  target  : s.target = s.params.resetTarget
  seq     : s.seq = .idle
  res     : s.res = 0
  status  : statusWord s = 0x00000020
  frames  : s.frames = []

/-- Every frame carries the command byte 0, and each mirror is the last wiper sent on its channel, or its reset value
(42_potentiometer.md R153). -/
def MirrorsFrames (s : State) : Prop :=
  (∀ f ∈ s.frames, f.b0 = 0x00) ∧
  ∀ ch, chGet s.wiper ch =
    lastSent s.frames ch (chGet ⟨s.params.resetWiperPwm, s.params.resetWiperCoarse, 128⟩ ch)

/-- The state with what nothing in the block reads replaced: DEV[ch] and LOSTOVF (10_state.md R29, R38). -/
def blurred (d : PerChannel Byte) (l : Bool) (s : State) : State := { s with dev := d, lostOvf := l }

/-- The state with the counter's side replaced. -/
def withCounter (tc ex : Byte) (ov lo : Bool) (s : State) : State :=
  { s with tcnt := tc, ext := ex, ovf := ov, lostOvf := lo }

end Sys2Proof.Claims

open Sys2Proof Sys2Proof.Machine Sys2Proof.Safety Sys2Proof.Claims

/-! # Encoding -/

/-- 30_encoding.md R80, R81, R83: the decoder reads back every command, with every operand value. -/
def Obligations.DecodeOfEncodeIsTheCommand : Prop :=
  ∀ i : Instr, decode (encode i) = .ok i

/-- 30_encoding.md R88: every word is exactly one valid command or one error, and a reserved field that is not zero is
never ignored. -/
def Obligations.EveryWordIsOneCommandOrOneError : Prop :=
  (∀ c : Word,
    (∃ i, decode c = .ok i ∧ encode i = c ∧ ∀ j, encode j = c → j = i) ∨
    (∃ code, decode c = .error code ∧ ∀ j, encode j ≠ c)) ∧
  ∀ c : Word, 1 ≤ opOf c → opOf c ≤ 0xA →
    (rsvOf c ≠ 0 ∨ (formatN (opOf c) ∧ (chOf c ≠ 0 ∨ immOf c ≠ 0)) ∨ (formatI (opOf c) ∧ chOf c ≠ 0)) →
    decode c = .error .reservedNonzero

/-- 30_encoding.md R86, R87, 60_exceptions.md R221: in a command's first micro-step the checks are made in order, the
first that fails ends the command with its code and no other effect; otherwise the command's rule runs. -/
def Obligations.FirstFailingCheckEndsTheCommand : Prop :=
  ∀ (s : State) (c : Word), s.rstN = true → s.seq = .busy c .s0 →
    if opOf c = 0 ∨ 0xB ≤ opOf c then
      react .seq s = .next (errored .illegalOpcode s)
    else if rsvOf c ≠ 0 ∨ (formatN (opOf c) ∧ (chOf c ≠ 0 ∨ immOf c ≠ 0)) ∨ (formatI (opOf c) ∧ chOf c ≠ 0) then
      react .seq s = .next (errored .reservedNonzero s)
    else if formatC (opOf c) ∧ chOf c = 3 then
      react .seq s = .next (errored .channelInvalid s)
    else
      (outOfRange s.params c → react .seq s = .next (errored .operandRange s)) ∧
      (¬ outOfRange s.params c →
        ∃ i, decode c = .ok i ∧ i.wellFormed s.params = true ∧ react .seq s = exec i s)

/-- Words of opcode_table.json and 95_test_vectors.md, read bit by bit. -/
def Obligations.WordsOfTheSpecDecode : Prop :=
  decode 0x10000000 = .ok .snap ∧
  decode 0x20000000 = .ok .etick ∧
  decode 0x30000000 = .ok .eqry ∧
  decode 0x480000A5 = .ok (.pset .fine 0xA5) ∧
  decode 0x54001388 = .ok (.psetr .coarse 5000) ∧
  decode 0x68000014 = .ok (.pr2w .fine 20) ∧
  decode 0x78000001 = .ok (.pw2r .fine 1) ∧
  decode 0x80000000 = .ok .tune ∧
  decode 0x90006D60 = .ok (.stgt 28000) ∧
  decode 0xA000000B = .ok (.rdreg 0x0B) ∧
  decode 0x4D000010 = .error .reservedNonzero ∧
  decode 0x4C000100 = .error .channelInvalid

/-- 30_encoding.md R90, R91 (section 5): each of the ten lines, its channel given by name or by number, assembles to the word
of its fields, which decodes to its command; an immediate of 2^24 or more and a channel number of 3 or more are refused; a
pseudo-instruction is its expansion. A line is given by its parts, the model's choice (log 18). -/
def Obligations.AssembledLinesDecode : Prop :=
  (assemble .snap = some [word 0x1 0 0] ∧ decode (word 0x1 0 0) = .ok .snap) ∧
  (assemble .etick = some [word 0x2 0 0] ∧ decode (word 0x2 0 0) = .ok .etick) ∧
  (assemble .eqry = some [word 0x3 0 0] ∧ decode (word 0x3 0 0) = .ok .eqry) ∧
  (assemble .tune = some [word 0x8 0 0] ∧ decode (word 0x8 0 0) = .ok .tune) ∧
  (∀ ch a imm, a = .name ch ∨ a = .number (chNum ch) → imm < 2 ^ 24 →
    (assemble (.pset a imm) = some [word 0x4 (chNum ch) imm] ∧
      decode (word 0x4 (chNum ch) imm) = .ok (.pset ch (BitVec.ofNat 24 imm))) ∧
    (assemble (.psetr a imm) = some [word 0x5 (chNum ch) imm] ∧
      decode (word 0x5 (chNum ch) imm) = .ok (.psetr ch (BitVec.ofNat 24 imm))) ∧
    (assemble (.pr2w a imm) = some [word 0x6 (chNum ch) imm] ∧
      decode (word 0x6 (chNum ch) imm) = .ok (.pr2w ch (BitVec.ofNat 24 imm))) ∧
    (assemble (.pw2r a imm) = some [word 0x7 (chNum ch) imm] ∧
      decode (word 0x7 (chNum ch) imm) = .ok (.pw2r ch (BitVec.ofNat 24 imm)))) ∧
  (∀ imm, imm < 2 ^ 24 →
    (assemble (.stgt imm) = some [word 0x9 0 imm] ∧ decode (word 0x9 0 imm) = .ok (.stgt (BitVec.ofNat 24 imm))) ∧
    (assemble (.rdreg imm) = some [word 0xA 0 imm] ∧ decode (word 0xA 0 imm) = .ok (.rdreg (BitVec.ofNat 24 imm)))) ∧
  (∀ a imm, 2 ^ 24 ≤ imm →
    assemble (.pset a imm) = none ∧ assemble (.psetr a imm) = none ∧ assemble (.pr2w a imm) = none ∧
    assemble (.pw2r a imm) = none ∧ assemble (.stgt imm) = none ∧ assemble (.rdreg imm) = none) ∧
  (∀ n imm, 3 ≤ n →
    assemble (.pset (.number n) imm) = none ∧ assemble (.psetr (.number n) imm) = none ∧
    assemble (.pr2w (.number n) imm) = none ∧ assemble (.pw2r (.number n) imm) = none ∧
    assemble (.rdwiper (.number n)) = none) ∧
  assemble .tick = some [word 0x2 0 0, word 0x3 0 0, word 0x8 0 0] ∧
  (∀ ch a, a = .name ch ∨ a = .number (chNum ch) → assemble (.rdwiper a) = some [word 0xA 0 (0x06 + chNum ch)]) ∧
  assemble .rdfreq = some [word 0xA 0 0x02]

/-! # Sequencing -/

/-- 30_encoding.md R84 (section 3), 00_scope.md R4 (section 2): a step is the next event's micro-step; where that is SEQ's and
the accepted word decodes, the step is that command's micro-step, with nothing around it but the event's removal. That the
next event is the agenda's head, else the free draw number `draws`, is the model's choice (log 1, log 20). -/
def Obligations.StepRunsTheDecodedCommand : Prop :=
  (∀ (s : State) ev evs, s.agenda = ev :: evs → step s = react ev { s with agenda := evs }) ∧
  (∀ s : State, s.agenda = [] → step s = react (Config.freeEvent s.draws) { s with draws := s.draws + 1 }) ∧
  ∀ (s : State) evs c k i, s.rstN = true → s.agenda = .seq :: evs → s.seq = .busy c k → decode c = .ok i →
    step s = exec i { s with agenda := evs }

/-- 10_state.md R21 (section 1): cmd_ready, acceptance, and the response, held until the next command is accepted. That
acceptance is a micro-step of its own and empties the port is the model's choice (log 3), and so is what rsp_res and rsp_err
carry while no response is presented (log 22). -/
def Obligations.CommandPortHandshake : Prop :=
  (∀ s : State, cmdReady s = true ↔ s.seq = .idle ∧ s.rstN = true) ∧
  (∀ (s : State) c, cmdReady s = true → s.cmdPort = some c →
    react .accept s = .next { s with seq := .busy c .s0, cmdPort := none, rspValid := false }) ∧
  (∀ s : State, cmdReady s = false ∨ s.cmdPort = none → react .accept s = .next s) ∧
  (∀ (s t : State) c k, s.seq = .busy c k → react .seq s = .next t → t.seq = .idle →
    t.rspValid = true ∧ rspRes t = t.res ∧ (rspErr t).toNat = codeNum t.lastErr) ∧
  (∀ (ev : Event) (s t : State), s.seq = .idle → ev ≠ .accept → ev ≠ .rst false → react ev s = .next t →
    t.rspValid = s.rspValid ∧ rspRes t = rspRes s ∧ rspErr t = rspErr s)

/-- 60_exceptions.md R234 (section 4): the block is always able to step; no state stops it. Where the event is not enabled the
step changes nothing, which is the model's choice (log 2). -/
def Obligations.BlockIsAlwaysAbleToStep : Prop :=
  ∀ s : State, ∃ t, step s = .next t

/-- 20_memory.md R71 (section 5): the enabling conditions of the agents; an agent that is not enabled has no step, which in
the model leaves the state as it is (log 2). -/
def Obligations.AgentsStepOnlyWhenEnabled : Prop :=
  ∀ s : State,
    (s.ovf = false ∨ s.toie = false ∨ s.rstN = false → react .service s = .next s) ∧
    (s.seq = .idle ∨ s.rstN = false → react .seq s = .next s) ∧
    (∀ e, e ≠ s.params.edge ∨ s.rstN = false → react (.pulseIn e) s = .next s)

/-! # Timer counter -/

/-- 40_timer_counter.md R100: PULSE. -/
def Obligations.PulseCountsAndMarksTheWrap : Prop :=
  ∀ s : State, s.rstN = true →
    (s.tcnt = 0xFF → react (pulseEvent s.params) s =
      .next { s with tcnt := 0x00, ovf := true, lostOvf := if s.ovf then true else s.lostOvf }) ∧
    (s.tcnt ≠ 0xFF → react (pulseEvent s.params) s = .next { s with tcnt := BitVec.ofNat 8 (s.tcnt.toNat + 1) })

/-- 40_timer_counter.md R102: SERVICE, enabled exactly when OVF = 1 and TOIE = 1. -/
def Obligations.ServiceExtendsTheCounter : Prop :=
  ∀ s : State, s.rstN = true →
    (enabled .service s = true ↔ s.ovf = true ∧ s.toie = true) ∧
    (s.ovf = true ∧ s.toie = true → react .service s =
      .next { s with ext := BitVec.ofNat 8 ((s.ext.toNat + 1) % 256), ovf := false })

/-- 10_state.md R32: every PULSE step adds 1 to X, a step that sets LOSTOVF adds 1 - 256, and no other step changes X. -/
def Obligations.ExtendedCountMovesOnlyByPulse : Prop :=
  ∀ (ev : Event) (s t : State), react ev s = .next t → ev ≠ .rst false →
    extCount t =
      if ev = pulseEvent s.params ∧ s.rstN = true then
        (if s.tcnt = 0xFF ∧ s.ovf = true then extCount s + 1 - 256 else extCount s + 1)
      else extCount s

/-- 40_timer_counter.md section 3 and 10_state.md R32: outside reset, and while no overflow is lost, X counts the edges. -/
def Obligations.ExtendedCountIsTheNumberOfEdges : Prop :=
  ∀ (evs : List Event) (s t : State), s.rstN = true → (∀ ev ∈ evs, ∀ l, ev ≠ .rst l) → after evs s = some t →
    t.lostOvf = false →
    extCount t = BitVec.ofNat 16 ((extCount s).toNat + countedEdges s.params evs)

/-- 40_timer_counter.md section 1 (R101): TCNT counts modulo 256 and has no other writer than PULSE and reset. That TCNT is 0
already when rst_n is driven low is the model's deduction (log 9: the spec gives the reset values when rst_n goes high). -/
def Obligations.OnlyPulseAndResetWriteTheLowByte : Prop :=
  ∀ (ev : Event) (s t : State), react ev s = .next t →
    t.tcnt.toNat =
      if ev = .rst false then 0
      else if ev = pulseEvent s.params ∧ s.rstN = true then (s.tcnt.toNat + 1) % 256
      else s.tcnt.toNat

/-- 40_timer_counter.md R104: SNAP, micro-step by micro-step. -/
def Obligations.SnapMicroSteps : Prop :=
  FormatNWords 0x1 .snap ∧
  ∀ s : State,
    let c := word 0x1 0 0
    (s.seq = .busy c .s0 → exec .snap s = .next { s with toie := false, seq := .busy c .s1 }) ∧
    (s.seq = .busy c .s1 → exec .snap s = .next { s with l1 := s.tcnt, seq := .busy c .s2 }) ∧
    (s.seq = .busy c .s2 → exec .snap s = .next { s with eLatch := s.ext, seq := .busy c .s3 }) ∧
    (s.seq = .busy c .s3 → exec .snap s = .next { s with l2 := s.tcnt, seq := .busy c .s4 }) ∧
    (s.seq = .busy c .s4 → s.l1 ≠ s.l2 → exec .snap s = .next { s with seq := .busy c .s1 }) ∧
    (s.seq = .busy c .s4 → s.l1 = s.l2 → exec .snap s = .next { s with seq := .busy c .s5 }) ∧
    (s.seq = .busy c .s5 → exec .snap s =
      .next (completed (BitVec.ofNat 32 (latchNum s))
        { s with toie := true, snap := BitVec.ofNat 16 (latchNum s) }))

/-- 40_timer_counter.md section 2 (R104's example, for every state): a SNAP that no other agent interrupts reads EXT and
TCNT in one attempt. -/
def Obligations.UninterruptedSnapReadsTheCounter : Prop :=
  ∀ s : State, s.rstN = true → s.seq = .busy (word 0x1 0 0) .s0 →
    after (List.replicate 6 .seq) s = some (completed (BitVec.ofNat 32 (256 * s.ext.toNat + s.tcnt.toNat))
      { s with
        toie := true, l1 := s.tcnt, eLatch := s.ext, l2 := s.tcnt
        snap := BitVec.ofNat 16 (256 * s.ext.toNat + s.tcnt.toNat) })

/-- 40_timer_counter.md R105: S5 sets TOIE unconditionally, only S0 and S5 write it, and TOIE = 1 in every reachable state
whose SEQ is not between S0 and S5 of a SNAP or ETICK. -/
def Obligations.OverflowSourceIsReenabled : Prop :=
  (∀ (s t : State) c, snapshotting c → s.rstN = true → s.seq = .busy c .s5 → react .seq s = .next t → t.toie = true) ∧
  (∀ (ev : Event) (s t : State), react ev s = .next t → ev ≠ .rst false → t.toie ≠ s.toie →
    ∃ c, snapshotting c ∧ (s.seq = .busy c .s0 ∧ t.toie = false ∨ s.seq = .busy c .s5 ∧ t.toie = true)) ∧
  (∀ snaps s, History snaps s → inCritical s.seq = false → s.toie = true)

/-- 40_timer_counter.md R106: while TOIE = 0 nothing changes EXT, so in an accepted attempt E is EXT throughout the read
and TCNT is L1 at S1 and at S3. -/
def Obligations.AcceptedSnapshotIsNotTorn : Prop :=
  (∀ (ev : Event) (s t : State), s.toie = false → ev ≠ .rst false → react ev s = .next t → t.ext = s.ext) ∧
  ∀ (s : State) c o1 o2 o3 o4, s.rstN = true → s.toie = false → snapshotting c → s.seq = .busy c .s1 →
    (∀ ev ∈ o1 ++ o2 ++ o3 ++ o4, isOther ev = true) →
    ∃ v u, after ([.seq] ++ o1 ++ [.seq] ++ o2) s = some v ∧ after (attempt o1 o2 o3 o4) s = some u ∧
      (∀ pre w, pre <+: attempt o1 o2 o3 o4 → after pre s = some w → w.ext = s.ext) ∧
      (u.seq = .busy c .s5 → u.eLatch = s.ext ∧ u.l1 = s.tcnt ∧ v.tcnt = s.tcnt)

/-- 40_timer_counter.md section 3 (R107): the value of an accepted attempt is X at its S1, less 256 where an overflow is pending
there, and so exact exactly where none is. -/
def Obligations.AcceptedSnapshotIsTheCountAtItsFirstRead : Prop :=
  ∀ (s : State) c o1 o2 o3 o4 u t, s.rstN = true → s.toie = false → snapshotting c → s.seq = .busy c .s1 →
    (∀ ev ∈ o1 ++ o2 ++ o3 ++ o4, isOther ev = true) →
    after (attempt o1 o2 o3 o4) s = some u → u.seq = .busy c .s5 → react .seq u = .next t →
    t.snap = extCount s - BitVec.ofNat 16 (256 * s.ovf.toNat) ∧ (t.snap = extCount s ↔ s.ovf = false)

/-- 40_timer_counter.md section 3 (R108): an attempt is accepted exactly when the PULSE steps between its S1 and its S3 are a multiple
of 256; while every attempt sees another number, the command never completes. -/
def Obligations.AttemptIsAcceptedByPulseCount : Prop :=
  (∀ (s : State) c o1 o2 o3 o4, s.rstN = true → s.toie = false → snapshotting c → s.seq = .busy c .s1 →
    (∀ ev ∈ o1 ++ o2 ++ o3 ++ o4, isOther ev = true) →
    ∃ u, after (attempt o1 o2 o3 o4) s = some u ∧
      u.seq = .busy c (if countedEdges s.params (o1 ++ o2) % 256 = 0 then .s5 else .s1)) ∧
  ∀ (s : State) c (attempts : List (List Event × List Event × List Event × List Event)),
    s.rstN = true → s.toie = false → snapshotting c → s.seq = .busy c .s1 →
    (∀ a ∈ attempts, (∀ ev ∈ a.1 ++ a.2.1 ++ a.2.2.1 ++ a.2.2.2, isOther ev = true) ∧
      countedEdges s.params (a.1 ++ a.2.1) % 256 ≠ 0) →
    ∃ u, after (attempts.flatMap fun a => attempt a.1 a.2.1 a.2.2.1 a.2.2.2) s = some u ∧
      u.seq = .busy c .s1 ∧ u.toie = false

/-- 40_timer_counter.md R110: one PULSE between the two reads makes the attempt fail, and the next attempt, undisturbed, is
accepted with the new TCNT and the unchanged EXT (a wrap included). -/
def Obligations.OneEdgeBetweenTheReadsIsRetried : Prop :=
  ∀ (s : State) (evs : List Event), s.rstN = true → s.toie = false → s.seq = .busy (word 0x1 0 0) .s1 →
    (evs = [.seq, pulseEvent s.params, .seq, .seq, .seq] ∨ evs = [.seq, .seq, pulseEvent s.params, .seq, .seq]) →
    ∃ v t, after evs s = some v ∧ v.l1 ≠ v.l2 ∧ v.seq = .busy (word 0x1 0 0) .s1 ∧
      after (List.replicate 5 .seq) v = some t ∧ t.seq = .idle ∧ t.tcnt.toNat = (s.tcnt.toNat + 1) % 256 ∧
      t.ext = s.ext ∧ t.snap.toNat = 256 * s.ext.toNat + (s.tcnt.toNat + 1) % 256

/-! # Frequency estimator -/

/-- 41_frequency_estimator.md R131: ETICK, micro-step by micro-step. -/
def Obligations.EtickMicroSteps : Prop :=
  FormatNWords 0x2 .etick ∧
  ∀ s : State,
    let c := word 0x2 0 0
    (s.seq = .busy c .s0 → exec .etick s = .next { s with toie := false, seq := .busy c .s1 }) ∧
    (s.seq = .busy c .s1 → exec .etick s = .next { s with l1 := s.tcnt, seq := .busy c .s2 }) ∧
    (s.seq = .busy c .s2 → exec .etick s = .next { s with eLatch := s.ext, seq := .busy c .s3 }) ∧
    (s.seq = .busy c .s3 → exec .etick s = .next { s with l2 := s.tcnt, seq := .busy c .s4 }) ∧
    (s.seq = .busy c .s4 → s.l1 ≠ s.l2 → exec .etick s = .next { s with seq := .busy c .s1 }) ∧
    (s.seq = .busy c .s4 → s.l1 = s.l2 → exec .etick s = .next { s with seq := .busy c .s5 }) ∧
    (s.seq = .busy c .s5 → exec .etick s =
      let d := (latchNum s + 65536 - s.prev.toNat) % 65536
      .next (completed (BitVec.ofNat 32 d)
        { s with
          toie := true
          snap := BitVec.ofNat 16 (latchNum s)
          ring := s.ring.set s.cur.toNat (BitVec.ofNat 16 d)
          prev := BitVec.ofNat 16 (latchNum s)
          cur := BitVec.ofNat 12 ((s.cur.toNat + 1) % s.params.cap) }))

/-- 41_frequency_estimator.md R133: EQRY. -/
def Obligations.EqrySumsTheWindow : Prop :=
  FormatNWords 0x3 .eqry ∧
  (∀ s : State,
    let f := BitVec.ofNat 32 ((s.ring.map BitVec.toNat).sum % 2 ^ sumBits s.params)
    exec .eqry s = .next (completed f { s with freq := f })) ∧
  (∀ s t : State, s.params.Legal → s.ring.length = s.params.cap → s.params.sumWidth = .w32 →
    exec .eqry s = .next t → t.freq.toNat = (s.ring.map BitVec.toNat).sum)

/-- 41_frequency_estimator.md sections 1 and 3 (R131, R134): at reset, and after every step, RING, PREV and CUR are those
of the snapshots taken by the ETICKs since reset. -/
def Obligations.WindowFollowsTheTicks : Prop :=
  (∀ p agenda, p.Legal → Window [] { State.resetWith p with agenda := agenda }) ∧
  ∀ snaps (s t : State), s.params.Legal → Window snaps s → step s = .next t →
    Window (snapsAfter (nextEvent s) s snaps) t

/-- 41_frequency_estimator.md R134: after N ETICK commands since reset, EQRY returns the sum of the last min(N, CAP)
deltas modulo 2^SUM_WIDTH. -/
def Obligations.QueryIsTheSumOfTheLastDeltas : Prop :=
  ∀ snaps (s : State), History snaps s →
    ∃ t, exec .eqry s = .next t ∧ t.res = t.freq ∧
      t.freq.toNat = ((lastN s.params.cap (deltas snaps)).map BitVec.toNat).sum % 2 ^ sumBits s.params

/-- 41_frequency_estimator.md section 3 (R135): with SUM_WIDTH = 16 the query telescopes to S_N - S_(N-CAP); with 32 it
does so while no snapshot in the window is below the one before it. -/
def Obligations.QueryTelescopes : Prop :=
  ∀ snaps (s t : State), History snaps s → exec .eqry s = .next t →
    (s.params.sumWidth = .w16 →
      t.freq.toNat = ((snapAt snaps snaps.length).toNat + 65536 -
        (snapAt snaps ((snaps.length : Int) - s.params.cap)).toNat) % 65536) ∧
    (s.params.sumWidth = .w32 →
      (∀ k : Int, (snaps.length : Int) - s.params.cap < k → k ≤ snaps.length →
        (snapAt snaps (k - 1)).toNat ≤ (snapAt snaps k).toNat) →
      t.freq.toNat = (snapAt snaps snaps.length).toNat -
        (snapAt snaps ((snaps.length : Int) - s.params.cap)).toNat)

/-! # Potentiometer command generator -/

/-- 42_potentiometer.md R155: PSET. -/
def Obligations.PsetSetsTheWiper : Prop :=
  FormatCWords 0x4 .pset ∧
  ∀ (s : State) ch (w : Imm),
    (w.toNat < stepsOf s.params ch →
      exec (.pset ch w) s = .next (completed (BitVec.ofNat 32 w.toNat) (sent ch (BitVec.ofNat 8 w.toNat) s))) ∧
    (stepsOf s.params ch ≤ w.toNat → exec (.pset ch w) s = .next (errored .operandRange s))

/-- 42_potentiometer.md section 2 (R156): PSETR. Rests on the
half-up rounding of 00_scope.md R11, which the spec marks as its own reading (log 12). -/
def Obligations.PsetrConvertsAndSetsTheWiper : Prop :=
  FormatCWords 0x5 .psetr ∧
  ∀ (s : State) ch (r : Imm),
    let w := r2wNum s.params ch r.toNat
    (r.toNat ≤ maxROf s.params ch →
      exec (.psetr ch r) s = .next (completed (BitVec.ofNat 32 w) (sent ch (BitVec.ofNat 8 w) s))) ∧
    (maxROf s.params ch < r.toNat → exec (.psetr ch r) s = .next (errored .operandRange s))

/-- 42_potentiometer.md section 2 (R157): PR2W. Rests on the
half-up rounding of 00_scope.md R11, which the spec marks as its own reading (log 12). -/
def Obligations.Pr2wConvertsOnly : Prop :=
  FormatCWords 0x6 .pr2w ∧
  ∀ (s : State) ch (r : Imm),
    (r.toNat ≤ maxROf s.params ch →
      exec (.pr2w ch r) s = .next (completed (BitVec.ofNat 32 (r2wNum s.params ch r.toNat)) s)) ∧
    (maxROf s.params ch < r.toNat → exec (.pr2w ch r) s = .next (errored .operandRange s))

/-- 42_potentiometer.md section 2 (R158): PW2R. Rests on the
half-up rounding of 00_scope.md R11, which the spec marks as its own reading (log 12). -/
def Obligations.Pw2rConvertsOnly : Prop :=
  FormatCWords 0x7 .pw2r ∧
  ∀ (s : State) ch (w : Imm),
    (w.toNat < stepsOf s.params ch →
      exec (.pw2r ch w) s = .next (completed (BitVec.ofNat 32 (w2rNum s.params ch w.toNat)) s)) ∧
    (stepsOf s.params ch ≤ w.toNat → exec (.pw2r ch w) s = .next (errored .operandRange s))

/-- 42_potentiometer.md section 1 (R150, R151): the conversions and their ranges. Rests on the
half-up rounding of 00_scope.md R11, which the spec marks as its own reading (log 12). -/
def Obligations.ConversionsStayInRange : Prop :=
  ∀ (p : Params) ch, p.Legal →
    (∀ r, r ≤ maxROf p ch →
      r2w p ch r = min ((2 * (r * stepsOf p ch) + maxROf p ch) / (2 * maxROf p ch)) (stepsOf p ch - 1) ∧
      r2w p ch r < stepsOf p ch) ∧
    (∀ w, w < stepsOf p ch →
      w2r p ch w = (2 * (w * maxROf p ch) + stepsOf p ch) / (2 * stepsOf p ch) ∧ w2r p ch w ≤ maxROf p ch)

/-- 42_potentiometer.md section 3 (R159): the round trip in wiper units. Rests on the
half-up rounding of 00_scope.md R11, which the spec marks as its own reading (log 12). -/
def Obligations.WiperRoundTrip : Prop :=
  ∀ (p : Params) ch w, p.Legal → stepsOf p ch ≤ maxROf p ch → w < stepsOf p ch →
    (r2w p ch (w2r p ch w) = w ∨ r2w p ch (w2r p ch w) = w + 1) ∧ r2w p ch (w2r p ch w) ≤ stepsOf p ch - 1

/-- 42_potentiometer.md section 3 (R160): the round trip in resistance units is within MAXR/STEPS + 1/2, and within MAXR/(2 STEPS) + 1/2
where the clamp does not apply (both multiplied by 2 STEPS). Rests on the
half-up rounding of 00_scope.md R11, which the spec marks as its own reading (log 12). -/
def Obligations.ResistanceRoundTrip : Prop :=
  ∀ (p : Params) ch r, p.Legal → r ≤ maxROf p ch →
    let err := ((w2r p ch (r2w p ch r) : Int) - r).natAbs
    2 * stepsOf p ch * err ≤ 2 * maxROf p ch + stepsOf p ch ∧
    (halfUp (r * stepsOf p ch) (maxROf p ch) ≤ stepsOf p ch - 1 →
      2 * stepsOf p ch * err ≤ maxROf p ch + stepsOf p ch)

/-- 42_potentiometer.md section 2 (R153): every mirror is the last value sent on its channel, or its reset value before the first
frame, at reset and after every step. -/
def Obligations.MirrorIsTheLastWiperSent : Prop :=
  (∀ p, MirrorsFrames (State.resetWith p)) ∧
  ∀ s t : State, MirrorsFrames s → step s = .next t → MirrorsFrames t

/-- 20_memory.md R62, 42_potentiometer.md R152: the lines of a frame, and what its command leaves behind. -/
def Obligations.FrameOnTheSerialPort : Prop :=
  (∀ f : Frame, frameLines f =
    [(csDuring f.ch, none)] ++
    [f.b0.getLsbD 7, f.b0.getLsbD 6, f.b0.getLsbD 5, f.b0.getLsbD 4, f.b0.getLsbD 3, f.b0.getLsbD 2, f.b0.getLsbD 1,
      f.b0.getLsbD 0, f.b1.getLsbD 7, f.b1.getLsbD 6, f.b1.getLsbD 5, f.b1.getLsbD 4, f.b1.getLsbD 3, f.b1.getLsbD 2,
      f.b1.getLsbD 1, f.b1.getLsbD 0].map (fun b => (csDuring f.ch, some b)) ++
    [(0b111, none)]) ∧
  (∀ ch n, n < 3 → ((csDuring ch).getLsbD n = false ↔ n = chNum ch)) ∧
  ∀ ch w (s : State), (sendWiper ch w s).frames = s.frames ++ [⟨ch, 0x00, w⟩] ∧
    chGet (sendWiper ch w s).dev ch = w

/-- 10_state.md R22 (section 1): at every moment of every history of the serial port at most one chip-select is low. -/
def Obligations.AtMostOneChipSelectIsLow : Prop :=
  ∀ (s : State), ∀ l ∈ serialLines s, ∀ m n, m < 3 → n < 3 →
    l.1.getLsbD m = false → l.1.getLsbD n = false → m = n

/-- 10_state.md R38, R44 (sections 4 and 6): outside reset, FRAMES only grows, and each device holds the last wiper of the
frames a step adds, unless the device itself changes. -/
def Obligations.DevicesFollowTheFrames : Prop :=
  ∀ (ev : Event) (s t : State), react ev s = .next t → ev ≠ .rst false →
    ∃ fs, t.frames = s.frames ++ fs ∧
      ∀ ch, (∀ w, ev ≠ .device ch w) → chGet t.dev ch = lastSent fs ch (chGet s.dev ch)

/-- 10_state.md R29, R38 (sections 2 and 4): nothing in the block reads DEV[ch] or LOSTOVF. -/
def Obligations.NothingReadsTheDevices : Prop :=
  ∀ (s t : State) d l, step s = .next t →
    ∃ t', step (blurred d l s) = .next t' ∧ blurred t.dev t.lostOvf t' = t

/-! # Relay tuner -/

/-- 43_tuner.md R183: STGT. -/
def Obligations.StgtSetsTheTarget : Prop :=
  FormatIWords 0x9 .stgt ∧
  ∀ (s : State) (v : Imm),
    (20000 ≤ v.toNat ∧ v.toNat ≤ 35000 →
      exec (.stgt v) s = .next (completed (BitVec.ofNat 32 v.toNat) { s with target := BitVec.ofNat 16 v.toNat })) ∧
    (v.toNat < 20000 ∨ 35000 < v.toNat → exec (.stgt v) s = .next (errored .operandRange s))

/-- 43_tuner.md R185: TUNE. -/
def Obligations.TuneStepsAndCarries : Prop :=
  FormatNWords 0x8 .tune ∧ ∀ s : State, exec .tune s = .next (tuned s)

/-- 43_tuner.md R187: no guard check without a change; the next TUNE with a change moves by one and carries if the fine
wiper is still outside the band. -/
def Obligations.GuardCheckOnlyAfterAChange : Prop :=
  ∀ s : State,
    (s.freq.toNat = s.target.toNat → ∃ t, exec .tune s = .next t ∧ t.wiper = s.wiper ∧ t.frames = s.frames) ∧
    (s.freq.toNat ≠ s.target.toNat →
      ∀ f : Int, f = (s.wiper.fine.toNat : Int) + (if s.target.toNat < s.freq.toNat then -1 else 1) →
      ∃ t, exec .tune s = .next t ∧
        (28 ≤ f → f ≤ 228 → (t.wiper.fine.toNat : Int) = f ∧ t.wiper.coarse = s.wiper.coarse) ∧
        (f < 28 ∨ 228 < f → t.wiper.fine = 128 ∧ t.res.getLsbD 2 = true))

/-- 43_tuner.md R188: the fine wiper stays in [0, 255] and, after a TUNE that changes it, in the band; the coarse wiper
stays in [0, STEPS - 1]. -/
def Obligations.TuneKeepsTheWipersInRange : Prop :=
  (∀ snaps s, History snaps s → s.wiper.fine.toNat ≤ 255 ∧ s.wiper.coarse.toNat ≤ stepsOf s.params .coarse - 1) ∧
  (∀ s t : State, exec .tune s = .next t → t.wiper.fine ≠ s.wiper.fine →
    28 ≤ t.wiper.fine.toNat ∧ t.wiper.fine.toNat ≤ 228) ∧
  (∀ s t : State, s.wiper.coarse.toNat < stepsOf s.params .coarse → stepsOf s.params .coarse ≤ 256 →
    exec .tune s = .next t → t.wiper.coarse.toNat < stepsOf s.params .coarse)

/-- 43_tuner.md R189: at most one carry a TUNE, which resets the fine wiper to 128; from there, whatever FREQ is found on
one side of TARGET, 100 TUNEs in one direction carry nothing and the 101st carries once. -/
def Obligations.OneCarryPerCrossing : Prop :=
  (∀ s t : State, exec .tune s = .next t → t.wiper.coarse ≠ s.wiper.coarse →
    t.wiper.fine = 128 ∧ (t.wiper.coarse + 1 = s.wiper.coarse ∨ t.wiper.coarse = s.wiper.coarse + 1)) ∧
  (∀ (s : State) fs, s.wiper.fine = 128 → (∀ f ∈ fs, s.target.toNat < f.toNat) → 0 < s.wiper.coarse.toNat →
    (fs.length ≤ 100 → ∃ t, tunesAt fs s = some t ∧ t.wiper.fine.toNat = 128 - fs.length ∧
      t.wiper.coarse = s.wiper.coarse ∧ t.frames.length = s.frames.length + fs.length) ∧
    (fs.length = 101 → ∃ t, tunesAt fs s = some t ∧ t.wiper.fine = 128 ∧
      t.wiper.coarse.toNat = s.wiper.coarse.toNat - 1 ∧ t.frames.length = s.frames.length + 102)) ∧
  (∀ (s : State) fs, s.wiper.fine = 128 → (∀ f ∈ fs, f.toNat < s.target.toNat) → stepsOf s.params .coarse ≤ 256 →
    s.wiper.coarse.toNat + 1 < stepsOf s.params .coarse →
    (fs.length ≤ 100 → ∃ t, tunesAt fs s = some t ∧ t.wiper.fine.toNat = 128 + fs.length ∧
      t.wiper.coarse = s.wiper.coarse ∧ t.frames.length = s.frames.length + fs.length) ∧
    (fs.length = 101 → ∃ t, tunesAt fs s = some t ∧ t.wiper.fine = 128 ∧
      t.wiper.coarse.toNat = s.wiper.coarse.toNat + 1 ∧ t.frames.length = s.frames.length + 102))

/-- 43_tuner.md R190: with the coarse wiper at a rail and the error keeping its sign, the fine wiper saw-tooths between 128
and the guard every 101 steps, CLAMP is set exactly at the crossings, and nothing else moves: one frame a step, the
other wipers unchanged. -/
def Obligations.RailSaturationSawTooth : Prop :=
  ∀ (s : State) fs, s.wiper.fine = 128 →
    ((∀ f ∈ fs, s.target.toNat < f.toNat) → s.wiper.coarse = 0 →
      ∃ t, tunesAt fs s = some t ∧ t.wiper.fine.toNat = 128 - fs.length % 101 ∧
        t.wiper.coarse = s.wiper.coarse ∧ t.wiper.pwm = s.wiper.pwm ∧
        t.frames.length = s.frames.length + fs.length ∧
        (fs ≠ [] → (t.res.getLsbD 3 = true ↔ fs.length % 101 = 0))) ∧
    ((∀ f ∈ fs, f.toNat < s.target.toNat) → s.wiper.coarse.toNat = stepsOf s.params .coarse - 1 →
      ∃ t, tunesAt fs s = some t ∧ t.wiper.fine.toNat = 128 + fs.length % 101 ∧
        t.wiper.coarse = s.wiper.coarse ∧ t.wiper.pwm = s.wiper.pwm ∧
        t.frames.length = s.frames.length + fs.length ∧
        (fs ≠ [] → (t.res.getLsbD 3 = true ↔ fs.length % 101 = 0)))

/-- 43_tuner.md section 3 (R191): under a frequency response non-decreasing in the fine wiper, measured exactly, a TUNE
that moves and does not carry leaves the error no larger, or within the change of that one step once its sign flips. -/
def Obligations.TuneMovesTowardTheTarget : Prop :=
  ∀ (g : Nat → Nat) (s t : State), (∀ a b, a ≤ b → g a ≤ g b) → s.freq.toNat = g s.wiper.fine.toNat →
    s.freq.toNat ≠ s.target.toNat → exec .tune s = .next t → t.res.getLsbD 2 = false →
    let before : Int := (g s.wiper.fine.toNat : Int) - s.target.toNat
    let now : Int := (g t.wiper.fine.toNat : Int) - s.target.toNat
    (0 ≤ before * now → now.natAbs ≤ before.natAbs) ∧
    (before * now < 0 → now.natAbs ≤ (now - before).natAbs)

/-! # Register access -/

/-- 44_register_access.md R200, R201: RDREG. -/
def Obligations.RdregReadsTheIndexMap : Prop :=
  FormatIWords 0xA .rdreg ∧
  ∀ (s : State) (idx : Imm),
    (∀ v, registerNum s idx.toNat = some v →
      exec (.rdreg idx) s = .next (completed (BitVec.ofNat 32 v) s)) ∧
    (registerNum s idx.toNat = none → exec (.rdreg idx) s = .next (errored .operandRange s))

/-- 10_state.md section 6 (R43): the fields of STATUS. -/
def Obligations.StatusWordFields : Prop :=
  ∀ s : State,
    (statusWord s).toNat % 16 = codeNum s.lastErr ∧
    (statusWord s).getLsbD 4 = s.sticky ∧
    (statusWord s).getLsbD 5 = s.toie ∧
    (statusWord s).getLsbD 6 = s.ovf ∧
    (statusWord s).toNat / 2 ^ 7 = 0

/-- 20_memory.md section 3 (R67): a reading command writes RES and the end of the command and nothing else, and what it
reads is not changed; EQRY, PR2W, PW2R, STGT, RDREG and an uninterrupted SNAP, repeated with nothing between, give the same
state again (RDREG of STATUS where no error stands in LAST_ERR, which the first one clears). -/
def Obligations.ReadsHaveNoSideEffect : Prop :=
  (∀ (s t : State) i, ((∃ idx, i = .rdreg idx) ∨ (∃ ch v, i = .pr2w ch v) ∨ ∃ ch v, i = .pw2r ch v) →
    exec i s = .next t → t.lastErr = none → t = completed t.res s) ∧
  (∀ (s t : State) i,
    (i = .eqry ∨ (∃ ch v, i = .pr2w ch v) ∨ (∃ ch v, i = .pw2r ch v) ∨ (∃ v, i = .stgt v) ∨
      ∃ idx : Imm, i = .rdreg idx ∧ (idx ≠ 0 ∨ s.lastErr = none)) →
    exec i s = .next t → exec i t = .next t) ∧
  (∀ s t : State, s.rstN = true → s.seq = .busy (word 0x1 0 0) .s0 → after (List.replicate 6 .seq) s = some t →
    t.seq = .idle ∧ after (List.replicate 6 .seq) { t with seq := .busy (word 0x1 0 0) .s0 } = some t)

/-! # What each command may write -/

/-- 20_memory.md R66, R70 (sections 3 and 5): no command writes what the other agents, the inputs or the parameters own,
and each piece of SEQ's state has the writers the spec names. -/
def Obligations.CommandsWriteOnlyTheirOwnState : Prop :=
  ∀ (i : Instr) (s t : State), exec i s = .next t →
    (t.params = s.params ∧ t.rstN = s.rstN ∧ t.cmdPort = s.cmdPort ∧ t.tcnt = s.tcnt ∧ t.ext = s.ext ∧ t.ovf = s.ovf ∧
      t.lostOvf = s.lostOvf ∧ t.agenda = s.agenda ∧ t.draws = s.draws) ∧
    (i ≠ .snap → i ≠ .etick →
      t.toie = s.toie ∧ t.snap = s.snap ∧ t.l1 = s.l1 ∧ t.eLatch = s.eLatch ∧ t.l2 = s.l2) ∧
    (i ≠ .etick → t.ring = s.ring ∧ t.cur = s.cur ∧ t.prev = s.prev) ∧
    (i ≠ .eqry → t.freq = s.freq) ∧
    ((∀ ch v, i ≠ .pset ch v) → (∀ ch v, i ≠ .psetr ch v) → i ≠ .tune →
      t.wiper = s.wiper ∧ t.dev = s.dev ∧ t.frames = s.frames) ∧
    ((∀ v, i ≠ .stgt v) → t.target = s.target) ∧
    (t.sticky = s.sticky ∨ t.sticky = true ∧ t.lastErr = some .operandRange)

/-- 20_memory.md R66, R70 (sections 3 and 5): a command other than SNAP, ETICK and an RDREG of STATUS, TCNT or EXT does not
read the counter's side. -/
def Obligations.OtherCommandsDoNotReadTheCounter : Prop :=
  ∀ (i : Instr) (s t : State) tc ex ov lo, i ≠ .snap → i ≠ .etick →
    (∀ idx : Imm, i = .rdreg idx → idx ≠ 0x0 ∧ idx ≠ 0x9 ∧ idx ≠ 0xA) → exec i s = .next t →
    exec i (withCounter tc ex ov lo s) = .next (withCounter tc ex ov lo t)

/-- 60_exceptions.md R222, 70_reset_and_hazards.md R253, 10_state.md R29: nothing but reset clears STICKY or LOSTOVF. -/
def Obligations.OnlyResetClearsTheRecords : Prop :=
  ∀ (evs : List Event) (s t : State), (∀ ev ∈ evs, ev ≠ .rst false) → after evs s = some t →
    (s.sticky = true → t.sticky = true) ∧ (s.lostOvf = true → t.lostOvf = true)

/-! # Reset and invariant -/

/-- 70_reset_and_hazards.md section 1 (R250, R251): reset. That the registers hold their reset values already while rst_n is
low is the model's deduction (log 9: the spec gives them when rst_n goes high), and that an agent in reset, which has no
step, leaves the state as it is, is the model's choice (log 2). -/
def Obligations.ResetLeavesTheStatedValues : Prop :=
  (∀ p, AtReset (State.resetWith p)) ∧
  ∀ s : State, ∃ t u, react (.rst false) s = .next t ∧ AtReset t ∧ t.rstN = false ∧ t.params = s.params ∧
    t.dev = s.dev ∧ cmdReady t = false ∧ csLines t = 0b111 ∧
    (∀ ev, ev = .seq ∨ ev = .service ∨ ev = .accept ∨ (∃ e, ev = .pulseIn e) → react ev t = .next t) ∧
    react (.rst true) t = .next u ∧ AtReset u ∧ u.rstN = true ∧ cmdReady u = true ∧ u.dev = s.dev

/-- The invariant holds at reset (70_reset_and_hazards.md R250), for every legal parameter set and for State.reset, whose
parameters are the model's choice (log 6). -/
def Obligations.ResetMeetsTheInvariant : Prop :=
  (∀ p agenda, p.Legal → Inv { State.resetWith p with agenda := agenda }) ∧ Inv State.reset

/-- Every step keeps the invariant: parameters, ring length, cursor, FREQ's width, wiper and target ranges (10_state.md R33
to R39), TOIE and the critical section, the latches (40_timer_counter.md R105, R106), the response (10_state.md R21). -/
def Obligations.StepKeepsTheInvariant : Prop :=
  ∀ s t : State, Inv s → step s = .next t → Inv t
end

