-- ==== Sys2Proof/Laws/Decode.lean ====
section
/-!
SUPPORT. The fields of a word as numbers, the fields of a packed word, and what each format of the decoder answers.
-/
namespace Sys2Proof

/-! ## Fields as numbers (30_encoding.md R80) -/

theorem opField_toNat (c : Word) : (opField c).toNat = c.toNat / 2 ^ 28 := by
  have := c.isLt
  simp only [opField, BitVec.extractLsb'_toNat, Nat.shiftRight_eq_div_pow]
  omega

theorem chField_toNat (c : Word) : (chField c).toNat = c.toNat / 2 ^ 26 % 4 := by
  simp only [chField, BitVec.extractLsb'_toNat, Nat.shiftRight_eq_div_pow]

theorem rsvField_toNat (c : Word) : (rsvField c).toNat = c.toNat / 2 ^ 24 % 4 := by
  simp only [rsvField, BitVec.extractLsb'_toNat, Nat.shiftRight_eq_div_pow]

theorem immField_toNat (c : Word) : (immField c).toNat = c.toNat % 2 ^ 24 := by
  simp [immField, BitVec.extractLsb'_toNat]

theorem packWord_toNat (op : BitVec 4) (ch : BitVec 2) (imm : Imm) :
    (packWord op ch imm).toNat = op.toNat * 2 ^ 28 + ch.toNat * 2 ^ 26 + imm.toNat := by
  have := op.isLt
  have := ch.isLt
  have := imm.isLt
  have h0 : (0 : BitVec 2).toNat = 0 := rfl
  simp only [packWord, BitVec.toNat_append, Nat.shiftLeft_eq, h0, Nat.or_zero]
  rw [Nat.mul_comm op.toNat, ← Nat.two_pow_add_eq_or_of_lt ch.isLt, Nat.mul_comm _ (2 ^ 24),
    ← Nat.two_pow_add_eq_or_of_lt imm.isLt]
  omega

/-! ## Fields of a packed word -/

@[simp] theorem opField_packWord (op : BitVec 4) (ch : BitVec 2) (imm : Imm) : opField (packWord op ch imm) = op := by
  have := ch.isLt
  have := imm.isLt
  apply BitVec.eq_of_toNat_eq
  rw [opField_toNat, packWord_toNat]
  omega

@[simp] theorem chField_packWord (op : BitVec 4) (ch : BitVec 2) (imm : Imm) : chField (packWord op ch imm) = ch := by
  have := ch.isLt
  have := imm.isLt
  apply BitVec.eq_of_toNat_eq
  rw [chField_toNat, packWord_toNat]
  omega

@[simp] theorem rsvField_packWord (op : BitVec 4) (ch : BitVec 2) (imm : Imm) : rsvField (packWord op ch imm) = 0 := by
  have := imm.isLt
  apply BitVec.eq_of_toNat_eq
  rw [rsvField_toNat, packWord_toNat, show (0 : BitVec 2).toNat = 0 from rfl]
  omega

@[simp] theorem immField_packWord (op : BitVec 4) (ch : BitVec 2) (imm : Imm) : immField (packWord op ch imm) = imm := by
  have := imm.isLt
  apply BitVec.eq_of_toNat_eq
  rw [immField_toNat, packWord_toNat]
  omega

/-- A word whose reserved field is zero is the packing of its fields. -/
theorem packWord_fields {c : Word} (h : rsvField c = 0) : packWord (opField c) (chField c) (immField c) = c := by
  have h' : (rsvField c).toNat = 0 := by rw [h]; rfl
  rw [rsvField_toNat] at h'
  apply BitVec.eq_of_toNat_eq
  rw [packWord_toNat, opField_toNat, chField_toNat, immField_toNat]
  omega

/-! ## Channels -/

@[simp] theorem channelOf_channelCode (ch : Channel) : channelOf (channelCode ch) = some ch := by
  cases ch <;> rfl

theorem channelOf_eq_some {v : BitVec 2} {ch : Channel} (h : channelOf v = some ch) : channelCode ch = v := by
  revert v ch; decide

theorem channelOf_eq_none {v : BitVec 2} : channelOf v = none ↔ v = 3 := by
  revert v; decide

/-! ## Formats (30_encoding.md R81) -/

theorem decodeN_eq_ok {c : Word} {i j : Instr} :
    decodeN c i = .ok j ↔ (rsvField c = 0 ∧ chField c = 0 ∧ immField c = 0) ∧ i = j := by
  unfold decodeN
  split
  case isTrue h => exact ⟨nofun, fun ⟨⟨h1, h2, h3⟩, _⟩ => by simp_all⟩
  case isFalse h => simp_all

theorem decodeC_eq_ok {c : Word} {mk : Channel → Imm → Instr} {j : Instr} :
    decodeC c mk = .ok j ↔ rsvField c = 0 ∧ ∃ ch, channelOf (chField c) = some ch ∧ mk ch (immField c) = j := by
  unfold decodeC
  split
  case isTrue => simp_all
  case isFalse => split <;> simp_all

theorem decodeI_eq_ok {c : Word} {mk : Imm → Instr} {j : Instr} :
    decodeI c mk = .ok j ↔ (rsvField c = 0 ∧ chField c = 0) ∧ mk (immField c) = j := by
  unfold decodeI
  split
  case isTrue h => exact ⟨nofun, fun ⟨⟨h1, h2⟩, _⟩ => by simp_all⟩
  case isFalse h => simp_all

end Sys2Proof
end

