-- ==== Sys2Proof/Laws/Operands.lean ====
section
/-!
SUPPORT. Channels, operand ranges and the register index map.
-/
namespace Sys2Proof.Machine

@[simp] theorem chGet_chSet_same {α : Type} (v : PerChannel α) (ch : Channel) (a : α) :
    chGet (chSet v ch a) ch = a := by
  cases ch <;> rfl

theorem chGet_chSet_other {α : Type} (v : PerChannel α) {ch ch' : Channel} (a : α) (h : ch' ≠ ch) :
    chGet (chSet v ch a) ch' = chGet v ch' := by
  cases ch <;> cases ch' <;> first | rfl | exact absurd rfl h

theorem chGet_chSet {α : Type} (v : PerChannel α) (ch ch' : Channel) (a : α) :
    chGet (chSet v ch a) ch' = if ch' = ch then a else chGet v ch' := by
  split
  case isTrue h => rw [h, chGet_chSet_same]
  case isFalse h => exact chGet_chSet_other v a h

theorem wiperLegal_iff {p : Params} {ch : Channel} {w : Imm} :
    wiperLegal p ch w = true ↔ w.toNat < stepsOf p ch := by
  simp [wiperLegal]

theorem resistanceLegal_iff {p : Params} {ch : Channel} {r : Imm} :
    resistanceLegal p ch r = true ↔ r.toNat ≤ maxROf p ch := by
  simp [resistanceLegal]

theorem targetLegal_iff {t : Imm} : targetLegal t = true ↔ 20000 ≤ t.toNat ∧ t.toNat ≤ 35000 := by
  unfold targetLegal targetLo targetHi
  exact decide_eq_true_iff

/-- An index is in the map exactly when it is one of the twelve fixed ones or a ring entry (44_register_access.md R200). -/
theorem regAt_isSome {p : Params} {idx : Imm} :
    (regAt p idx).isSome = true ↔ idx.toNat ≤ 0xB ∨ (0x1000 ≤ idx.toNat ∧ idx.toNat < 0x1000 + p.cap) := by
  unfold regAt
  split
  case h_13 =>
    split
    case isTrue => simp_all
    case isFalse => simp_all; omega
  all_goals simp_all

end Sys2Proof.Machine
end

