-- ==== Sys2Proof/Laws/State.lean ====
section
/-!
SUPPORT. One lemma per field per update, so that no later proof unfolds a record update.
-/
namespace Sys2Proof.Machine


/-! ## complete -/

@[simp] theorem complete_params (v : Word) (s : State) : (complete v s).params = s.params := rfl
@[simp] theorem complete_rstN (v : Word) (s : State) : (complete v s).rstN = s.rstN := rfl
@[simp] theorem complete_cmdPort (v : Word) (s : State) : (complete v s).cmdPort = s.cmdPort := rfl
@[simp] theorem complete_rspValid (v : Word) (s : State) : (complete v s).rspValid = true := rfl
@[simp] theorem complete_tcnt (v : Word) (s : State) : (complete v s).tcnt = s.tcnt := rfl
@[simp] theorem complete_ext (v : Word) (s : State) : (complete v s).ext = s.ext := rfl
@[simp] theorem complete_ovf (v : Word) (s : State) : (complete v s).ovf = s.ovf := rfl
@[simp] theorem complete_toie (v : Word) (s : State) : (complete v s).toie = s.toie := rfl
@[simp] theorem complete_lostOvf (v : Word) (s : State) : (complete v s).lostOvf = s.lostOvf := rfl
@[simp] theorem complete_l1 (v : Word) (s : State) : (complete v s).l1 = s.l1 := rfl
@[simp] theorem complete_eLatch (v : Word) (s : State) : (complete v s).eLatch = s.eLatch := rfl
@[simp] theorem complete_l2 (v : Word) (s : State) : (complete v s).l2 = s.l2 := rfl
@[simp] theorem complete_snap (v : Word) (s : State) : (complete v s).snap = s.snap := rfl
@[simp] theorem complete_ring (v : Word) (s : State) : (complete v s).ring = s.ring := rfl
@[simp] theorem complete_cur (v : Word) (s : State) : (complete v s).cur = s.cur := rfl
@[simp] theorem complete_prev (v : Word) (s : State) : (complete v s).prev = s.prev := rfl
@[simp] theorem complete_freq (v : Word) (s : State) : (complete v s).freq = s.freq := rfl
@[simp] theorem complete_wiper (v : Word) (s : State) : (complete v s).wiper = s.wiper := rfl
@[simp] theorem complete_dev (v : Word) (s : State) : (complete v s).dev = s.dev := rfl
@[simp] theorem complete_target (v : Word) (s : State) : (complete v s).target = s.target := rfl
@[simp] theorem complete_seq (v : Word) (s : State) : (complete v s).seq = .idle := rfl
@[simp] theorem complete_res (v : Word) (s : State) : (complete v s).res = v := rfl
@[simp] theorem complete_lastErr (v : Word) (s : State) : (complete v s).lastErr = none := rfl
@[simp] theorem complete_sticky (v : Word) (s : State) : (complete v s).sticky = s.sticky := rfl
@[simp] theorem complete_frames (v : Word) (s : State) : (complete v s).frames = s.frames := rfl
@[simp] theorem complete_agenda (v : Word) (s : State) : (complete v s).agenda = s.agenda := rfl
@[simp] theorem complete_draws (v : Word) (s : State) : (complete v s).draws = s.draws := rfl

/-! ## raiseErr -/

@[simp] theorem raiseErr_params (e : CmdError) (s : State) : (raiseErr e s).params = s.params := rfl
@[simp] theorem raiseErr_rstN (e : CmdError) (s : State) : (raiseErr e s).rstN = s.rstN := rfl
@[simp] theorem raiseErr_cmdPort (e : CmdError) (s : State) : (raiseErr e s).cmdPort = s.cmdPort := rfl
@[simp] theorem raiseErr_rspValid (e : CmdError) (s : State) : (raiseErr e s).rspValid = true := rfl
@[simp] theorem raiseErr_tcnt (e : CmdError) (s : State) : (raiseErr e s).tcnt = s.tcnt := rfl
@[simp] theorem raiseErr_ext (e : CmdError) (s : State) : (raiseErr e s).ext = s.ext := rfl
@[simp] theorem raiseErr_ovf (e : CmdError) (s : State) : (raiseErr e s).ovf = s.ovf := rfl
@[simp] theorem raiseErr_toie (e : CmdError) (s : State) : (raiseErr e s).toie = s.toie := rfl
@[simp] theorem raiseErr_lostOvf (e : CmdError) (s : State) : (raiseErr e s).lostOvf = s.lostOvf := rfl
@[simp] theorem raiseErr_l1 (e : CmdError) (s : State) : (raiseErr e s).l1 = s.l1 := rfl
@[simp] theorem raiseErr_eLatch (e : CmdError) (s : State) : (raiseErr e s).eLatch = s.eLatch := rfl
@[simp] theorem raiseErr_l2 (e : CmdError) (s : State) : (raiseErr e s).l2 = s.l2 := rfl
@[simp] theorem raiseErr_snap (e : CmdError) (s : State) : (raiseErr e s).snap = s.snap := rfl
@[simp] theorem raiseErr_ring (e : CmdError) (s : State) : (raiseErr e s).ring = s.ring := rfl
@[simp] theorem raiseErr_cur (e : CmdError) (s : State) : (raiseErr e s).cur = s.cur := rfl
@[simp] theorem raiseErr_prev (e : CmdError) (s : State) : (raiseErr e s).prev = s.prev := rfl
@[simp] theorem raiseErr_freq (e : CmdError) (s : State) : (raiseErr e s).freq = s.freq := rfl
@[simp] theorem raiseErr_wiper (e : CmdError) (s : State) : (raiseErr e s).wiper = s.wiper := rfl
@[simp] theorem raiseErr_dev (e : CmdError) (s : State) : (raiseErr e s).dev = s.dev := rfl
@[simp] theorem raiseErr_target (e : CmdError) (s : State) : (raiseErr e s).target = s.target := rfl
@[simp] theorem raiseErr_seq (e : CmdError) (s : State) : (raiseErr e s).seq = .idle := rfl
@[simp] theorem raiseErr_res (e : CmdError) (s : State) : (raiseErr e s).res = s.res := rfl
@[simp] theorem raiseErr_lastErr (e : CmdError) (s : State) : (raiseErr e s).lastErr = some e := rfl
@[simp] theorem raiseErr_sticky (e : CmdError) (s : State) : (raiseErr e s).sticky = true := rfl
@[simp] theorem raiseErr_frames (e : CmdError) (s : State) : (raiseErr e s).frames = s.frames := rfl
@[simp] theorem raiseErr_agenda (e : CmdError) (s : State) : (raiseErr e s).agenda = s.agenda := rfl
@[simp] theorem raiseErr_draws (e : CmdError) (s : State) : (raiseErr e s).draws = s.draws := rfl

/-! ## sendWiper -/

@[simp] theorem sendWiper_params (ch : Channel) (w : Byte) (s : State) : (sendWiper ch w s).params = s.params := rfl
@[simp] theorem sendWiper_rstN (ch : Channel) (w : Byte) (s : State) : (sendWiper ch w s).rstN = s.rstN := rfl
@[simp] theorem sendWiper_cmdPort (ch : Channel) (w : Byte) (s : State) : (sendWiper ch w s).cmdPort = s.cmdPort := rfl
@[simp] theorem sendWiper_rspValid (ch : Channel) (w : Byte) (s : State) : (sendWiper ch w s).rspValid = s.rspValid := rfl
@[simp] theorem sendWiper_tcnt (ch : Channel) (w : Byte) (s : State) : (sendWiper ch w s).tcnt = s.tcnt := rfl
@[simp] theorem sendWiper_ext (ch : Channel) (w : Byte) (s : State) : (sendWiper ch w s).ext = s.ext := rfl
@[simp] theorem sendWiper_ovf (ch : Channel) (w : Byte) (s : State) : (sendWiper ch w s).ovf = s.ovf := rfl
@[simp] theorem sendWiper_toie (ch : Channel) (w : Byte) (s : State) : (sendWiper ch w s).toie = s.toie := rfl
@[simp] theorem sendWiper_lostOvf (ch : Channel) (w : Byte) (s : State) : (sendWiper ch w s).lostOvf = s.lostOvf := rfl
@[simp] theorem sendWiper_l1 (ch : Channel) (w : Byte) (s : State) : (sendWiper ch w s).l1 = s.l1 := rfl
@[simp] theorem sendWiper_eLatch (ch : Channel) (w : Byte) (s : State) : (sendWiper ch w s).eLatch = s.eLatch := rfl
@[simp] theorem sendWiper_l2 (ch : Channel) (w : Byte) (s : State) : (sendWiper ch w s).l2 = s.l2 := rfl
@[simp] theorem sendWiper_snap (ch : Channel) (w : Byte) (s : State) : (sendWiper ch w s).snap = s.snap := rfl
@[simp] theorem sendWiper_ring (ch : Channel) (w : Byte) (s : State) : (sendWiper ch w s).ring = s.ring := rfl
@[simp] theorem sendWiper_cur (ch : Channel) (w : Byte) (s : State) : (sendWiper ch w s).cur = s.cur := rfl
@[simp] theorem sendWiper_prev (ch : Channel) (w : Byte) (s : State) : (sendWiper ch w s).prev = s.prev := rfl
@[simp] theorem sendWiper_freq (ch : Channel) (w : Byte) (s : State) : (sendWiper ch w s).freq = s.freq := rfl
@[simp] theorem sendWiper_wiper (ch : Channel) (w : Byte) (s : State) : (sendWiper ch w s).wiper = chSet s.wiper ch w := rfl
@[simp] theorem sendWiper_dev (ch : Channel) (w : Byte) (s : State) : (sendWiper ch w s).dev = chSet s.dev ch w := rfl
@[simp] theorem sendWiper_target (ch : Channel) (w : Byte) (s : State) : (sendWiper ch w s).target = s.target := rfl
@[simp] theorem sendWiper_seq (ch : Channel) (w : Byte) (s : State) : (sendWiper ch w s).seq = s.seq := rfl
@[simp] theorem sendWiper_res (ch : Channel) (w : Byte) (s : State) : (sendWiper ch w s).res = s.res := rfl
@[simp] theorem sendWiper_lastErr (ch : Channel) (w : Byte) (s : State) : (sendWiper ch w s).lastErr = s.lastErr := rfl
@[simp] theorem sendWiper_sticky (ch : Channel) (w : Byte) (s : State) : (sendWiper ch w s).sticky = s.sticky := rfl
@[simp] theorem sendWiper_frames (ch : Channel) (w : Byte) (s : State) : (sendWiper ch w s).frames = s.frames ++ [{ ch := ch, b0 := potCommandByte, b1 := w }] := rfl
@[simp] theorem sendWiper_agenda (ch : Channel) (w : Byte) (s : State) : (sendWiper ch w s).agenda = s.agenda := rfl
@[simp] theorem sendWiper_draws (ch : Channel) (w : Byte) (s : State) : (sendWiper ch w s).draws = s.draws := rfl

/-! ## service -/

@[simp] theorem service_params (s : State) : (service s).params = s.params := rfl
@[simp] theorem service_rstN (s : State) : (service s).rstN = s.rstN := rfl
@[simp] theorem service_cmdPort (s : State) : (service s).cmdPort = s.cmdPort := rfl
@[simp] theorem service_rspValid (s : State) : (service s).rspValid = s.rspValid := rfl
@[simp] theorem service_tcnt (s : State) : (service s).tcnt = s.tcnt := rfl
@[simp] theorem service_ext (s : State) : (service s).ext = s.ext + 1 := rfl
@[simp] theorem service_ovf (s : State) : (service s).ovf = false := rfl
@[simp] theorem service_toie (s : State) : (service s).toie = s.toie := rfl
@[simp] theorem service_lostOvf (s : State) : (service s).lostOvf = s.lostOvf := rfl
@[simp] theorem service_l1 (s : State) : (service s).l1 = s.l1 := rfl
@[simp] theorem service_eLatch (s : State) : (service s).eLatch = s.eLatch := rfl
@[simp] theorem service_l2 (s : State) : (service s).l2 = s.l2 := rfl
@[simp] theorem service_snap (s : State) : (service s).snap = s.snap := rfl
@[simp] theorem service_ring (s : State) : (service s).ring = s.ring := rfl
@[simp] theorem service_cur (s : State) : (service s).cur = s.cur := rfl
@[simp] theorem service_prev (s : State) : (service s).prev = s.prev := rfl
@[simp] theorem service_freq (s : State) : (service s).freq = s.freq := rfl
@[simp] theorem service_wiper (s : State) : (service s).wiper = s.wiper := rfl
@[simp] theorem service_dev (s : State) : (service s).dev = s.dev := rfl
@[simp] theorem service_target (s : State) : (service s).target = s.target := rfl
@[simp] theorem service_seq (s : State) : (service s).seq = s.seq := rfl
@[simp] theorem service_res (s : State) : (service s).res = s.res := rfl
@[simp] theorem service_lastErr (s : State) : (service s).lastErr = s.lastErr := rfl
@[simp] theorem service_sticky (s : State) : (service s).sticky = s.sticky := rfl
@[simp] theorem service_frames (s : State) : (service s).frames = s.frames := rfl
@[simp] theorem service_agenda (s : State) : (service s).agenda = s.agenda := rfl
@[simp] theorem service_draws (s : State) : (service s).draws = s.draws := rfl

/-! ## acceptWord -/

@[simp] theorem acceptWord_params (c : Word) (s : State) : (acceptWord c s).params = s.params := rfl
@[simp] theorem acceptWord_rstN (c : Word) (s : State) : (acceptWord c s).rstN = s.rstN := rfl
@[simp] theorem acceptWord_cmdPort (c : Word) (s : State) : (acceptWord c s).cmdPort = none := rfl
@[simp] theorem acceptWord_rspValid (c : Word) (s : State) : (acceptWord c s).rspValid = false := rfl
@[simp] theorem acceptWord_tcnt (c : Word) (s : State) : (acceptWord c s).tcnt = s.tcnt := rfl
@[simp] theorem acceptWord_ext (c : Word) (s : State) : (acceptWord c s).ext = s.ext := rfl
@[simp] theorem acceptWord_ovf (c : Word) (s : State) : (acceptWord c s).ovf = s.ovf := rfl
@[simp] theorem acceptWord_toie (c : Word) (s : State) : (acceptWord c s).toie = s.toie := rfl
@[simp] theorem acceptWord_lostOvf (c : Word) (s : State) : (acceptWord c s).lostOvf = s.lostOvf := rfl
@[simp] theorem acceptWord_l1 (c : Word) (s : State) : (acceptWord c s).l1 = s.l1 := rfl
@[simp] theorem acceptWord_eLatch (c : Word) (s : State) : (acceptWord c s).eLatch = s.eLatch := rfl
@[simp] theorem acceptWord_l2 (c : Word) (s : State) : (acceptWord c s).l2 = s.l2 := rfl
@[simp] theorem acceptWord_snap (c : Word) (s : State) : (acceptWord c s).snap = s.snap := rfl
@[simp] theorem acceptWord_ring (c : Word) (s : State) : (acceptWord c s).ring = s.ring := rfl
@[simp] theorem acceptWord_cur (c : Word) (s : State) : (acceptWord c s).cur = s.cur := rfl
@[simp] theorem acceptWord_prev (c : Word) (s : State) : (acceptWord c s).prev = s.prev := rfl
@[simp] theorem acceptWord_freq (c : Word) (s : State) : (acceptWord c s).freq = s.freq := rfl
@[simp] theorem acceptWord_wiper (c : Word) (s : State) : (acceptWord c s).wiper = s.wiper := rfl
@[simp] theorem acceptWord_dev (c : Word) (s : State) : (acceptWord c s).dev = s.dev := rfl
@[simp] theorem acceptWord_target (c : Word) (s : State) : (acceptWord c s).target = s.target := rfl
@[simp] theorem acceptWord_seq (c : Word) (s : State) : (acceptWord c s).seq = .busy c .s0 := rfl
@[simp] theorem acceptWord_res (c : Word) (s : State) : (acceptWord c s).res = s.res := rfl
@[simp] theorem acceptWord_lastErr (c : Word) (s : State) : (acceptWord c s).lastErr = s.lastErr := rfl
@[simp] theorem acceptWord_sticky (c : Word) (s : State) : (acceptWord c s).sticky = s.sticky := rfl
@[simp] theorem acceptWord_frames (c : Word) (s : State) : (acceptWord c s).frames = s.frames := rfl
@[simp] theorem acceptWord_agenda (c : Word) (s : State) : (acceptWord c s).agenda = s.agenda := rfl
@[simp] theorem acceptWord_draws (c : Word) (s : State) : (acceptWord c s).draws = s.draws := rfl

/-! ## driveCmd -/

@[simp] theorem driveCmd_params (p : Option Word) (s : State) : (driveCmd p s).params = s.params := rfl
@[simp] theorem driveCmd_rstN (p : Option Word) (s : State) : (driveCmd p s).rstN = s.rstN := rfl
@[simp] theorem driveCmd_cmdPort (p : Option Word) (s : State) : (driveCmd p s).cmdPort = p := rfl
@[simp] theorem driveCmd_rspValid (p : Option Word) (s : State) : (driveCmd p s).rspValid = s.rspValid := rfl
@[simp] theorem driveCmd_tcnt (p : Option Word) (s : State) : (driveCmd p s).tcnt = s.tcnt := rfl
@[simp] theorem driveCmd_ext (p : Option Word) (s : State) : (driveCmd p s).ext = s.ext := rfl
@[simp] theorem driveCmd_ovf (p : Option Word) (s : State) : (driveCmd p s).ovf = s.ovf := rfl
@[simp] theorem driveCmd_toie (p : Option Word) (s : State) : (driveCmd p s).toie = s.toie := rfl
@[simp] theorem driveCmd_lostOvf (p : Option Word) (s : State) : (driveCmd p s).lostOvf = s.lostOvf := rfl
@[simp] theorem driveCmd_l1 (p : Option Word) (s : State) : (driveCmd p s).l1 = s.l1 := rfl
@[simp] theorem driveCmd_eLatch (p : Option Word) (s : State) : (driveCmd p s).eLatch = s.eLatch := rfl
@[simp] theorem driveCmd_l2 (p : Option Word) (s : State) : (driveCmd p s).l2 = s.l2 := rfl
@[simp] theorem driveCmd_snap (p : Option Word) (s : State) : (driveCmd p s).snap = s.snap := rfl
@[simp] theorem driveCmd_ring (p : Option Word) (s : State) : (driveCmd p s).ring = s.ring := rfl
@[simp] theorem driveCmd_cur (p : Option Word) (s : State) : (driveCmd p s).cur = s.cur := rfl
@[simp] theorem driveCmd_prev (p : Option Word) (s : State) : (driveCmd p s).prev = s.prev := rfl
@[simp] theorem driveCmd_freq (p : Option Word) (s : State) : (driveCmd p s).freq = s.freq := rfl
@[simp] theorem driveCmd_wiper (p : Option Word) (s : State) : (driveCmd p s).wiper = s.wiper := rfl
@[simp] theorem driveCmd_dev (p : Option Word) (s : State) : (driveCmd p s).dev = s.dev := rfl
@[simp] theorem driveCmd_target (p : Option Word) (s : State) : (driveCmd p s).target = s.target := rfl
@[simp] theorem driveCmd_seq (p : Option Word) (s : State) : (driveCmd p s).seq = s.seq := rfl
@[simp] theorem driveCmd_res (p : Option Word) (s : State) : (driveCmd p s).res = s.res := rfl
@[simp] theorem driveCmd_lastErr (p : Option Word) (s : State) : (driveCmd p s).lastErr = s.lastErr := rfl
@[simp] theorem driveCmd_sticky (p : Option Word) (s : State) : (driveCmd p s).sticky = s.sticky := rfl
@[simp] theorem driveCmd_frames (p : Option Word) (s : State) : (driveCmd p s).frames = s.frames := rfl
@[simp] theorem driveCmd_agenda (p : Option Word) (s : State) : (driveCmd p s).agenda = s.agenda := rfl
@[simp] theorem driveCmd_draws (p : Option Word) (s : State) : (driveCmd p s).draws = s.draws := rfl

/-! ## setDevice -/

@[simp] theorem setDevice_params (ch : Channel) (w : Byte) (s : State) : (setDevice ch w s).params = s.params := rfl
@[simp] theorem setDevice_rstN (ch : Channel) (w : Byte) (s : State) : (setDevice ch w s).rstN = s.rstN := rfl
@[simp] theorem setDevice_cmdPort (ch : Channel) (w : Byte) (s : State) : (setDevice ch w s).cmdPort = s.cmdPort := rfl
@[simp] theorem setDevice_rspValid (ch : Channel) (w : Byte) (s : State) : (setDevice ch w s).rspValid = s.rspValid := rfl
@[simp] theorem setDevice_tcnt (ch : Channel) (w : Byte) (s : State) : (setDevice ch w s).tcnt = s.tcnt := rfl
@[simp] theorem setDevice_ext (ch : Channel) (w : Byte) (s : State) : (setDevice ch w s).ext = s.ext := rfl
@[simp] theorem setDevice_ovf (ch : Channel) (w : Byte) (s : State) : (setDevice ch w s).ovf = s.ovf := rfl
@[simp] theorem setDevice_toie (ch : Channel) (w : Byte) (s : State) : (setDevice ch w s).toie = s.toie := rfl
@[simp] theorem setDevice_lostOvf (ch : Channel) (w : Byte) (s : State) : (setDevice ch w s).lostOvf = s.lostOvf := rfl
@[simp] theorem setDevice_l1 (ch : Channel) (w : Byte) (s : State) : (setDevice ch w s).l1 = s.l1 := rfl
@[simp] theorem setDevice_eLatch (ch : Channel) (w : Byte) (s : State) : (setDevice ch w s).eLatch = s.eLatch := rfl
@[simp] theorem setDevice_l2 (ch : Channel) (w : Byte) (s : State) : (setDevice ch w s).l2 = s.l2 := rfl
@[simp] theorem setDevice_snap (ch : Channel) (w : Byte) (s : State) : (setDevice ch w s).snap = s.snap := rfl
@[simp] theorem setDevice_ring (ch : Channel) (w : Byte) (s : State) : (setDevice ch w s).ring = s.ring := rfl
@[simp] theorem setDevice_cur (ch : Channel) (w : Byte) (s : State) : (setDevice ch w s).cur = s.cur := rfl
@[simp] theorem setDevice_prev (ch : Channel) (w : Byte) (s : State) : (setDevice ch w s).prev = s.prev := rfl
@[simp] theorem setDevice_freq (ch : Channel) (w : Byte) (s : State) : (setDevice ch w s).freq = s.freq := rfl
@[simp] theorem setDevice_wiper (ch : Channel) (w : Byte) (s : State) : (setDevice ch w s).wiper = s.wiper := rfl
@[simp] theorem setDevice_dev (ch : Channel) (w : Byte) (s : State) : (setDevice ch w s).dev = chSet s.dev ch w := rfl
@[simp] theorem setDevice_target (ch : Channel) (w : Byte) (s : State) : (setDevice ch w s).target = s.target := rfl
@[simp] theorem setDevice_seq (ch : Channel) (w : Byte) (s : State) : (setDevice ch w s).seq = s.seq := rfl
@[simp] theorem setDevice_res (ch : Channel) (w : Byte) (s : State) : (setDevice ch w s).res = s.res := rfl
@[simp] theorem setDevice_lastErr (ch : Channel) (w : Byte) (s : State) : (setDevice ch w s).lastErr = s.lastErr := rfl
@[simp] theorem setDevice_sticky (ch : Channel) (w : Byte) (s : State) : (setDevice ch w s).sticky = s.sticky := rfl
@[simp] theorem setDevice_frames (ch : Channel) (w : Byte) (s : State) : (setDevice ch w s).frames = s.frames := rfl
@[simp] theorem setDevice_agenda (ch : Channel) (w : Byte) (s : State) : (setDevice ch w s).agenda = s.agenda := rfl
@[simp] theorem setDevice_draws (ch : Channel) (w : Byte) (s : State) : (setDevice ch w s).draws = s.draws := rfl

/-! ## acceptSnapshot -/

@[simp] theorem acceptSnapshot_params (s : State) : (acceptSnapshot s).params = s.params := rfl
@[simp] theorem acceptSnapshot_rstN (s : State) : (acceptSnapshot s).rstN = s.rstN := rfl
@[simp] theorem acceptSnapshot_cmdPort (s : State) : (acceptSnapshot s).cmdPort = s.cmdPort := rfl
@[simp] theorem acceptSnapshot_rspValid (s : State) : (acceptSnapshot s).rspValid = s.rspValid := rfl
@[simp] theorem acceptSnapshot_tcnt (s : State) : (acceptSnapshot s).tcnt = s.tcnt := rfl
@[simp] theorem acceptSnapshot_ext (s : State) : (acceptSnapshot s).ext = s.ext := rfl
@[simp] theorem acceptSnapshot_ovf (s : State) : (acceptSnapshot s).ovf = s.ovf := rfl
@[simp] theorem acceptSnapshot_toie (s : State) : (acceptSnapshot s).toie = true := rfl
@[simp] theorem acceptSnapshot_lostOvf (s : State) : (acceptSnapshot s).lostOvf = s.lostOvf := rfl
@[simp] theorem acceptSnapshot_l1 (s : State) : (acceptSnapshot s).l1 = s.l1 := rfl
@[simp] theorem acceptSnapshot_eLatch (s : State) : (acceptSnapshot s).eLatch = s.eLatch := rfl
@[simp] theorem acceptSnapshot_l2 (s : State) : (acceptSnapshot s).l2 = s.l2 := rfl
@[simp] theorem acceptSnapshot_snap (s : State) : (acceptSnapshot s).snap = snapshotValue s := rfl
@[simp] theorem acceptSnapshot_ring (s : State) : (acceptSnapshot s).ring = s.ring := rfl
@[simp] theorem acceptSnapshot_cur (s : State) : (acceptSnapshot s).cur = s.cur := rfl
@[simp] theorem acceptSnapshot_prev (s : State) : (acceptSnapshot s).prev = s.prev := rfl
@[simp] theorem acceptSnapshot_freq (s : State) : (acceptSnapshot s).freq = s.freq := rfl
@[simp] theorem acceptSnapshot_wiper (s : State) : (acceptSnapshot s).wiper = s.wiper := rfl
@[simp] theorem acceptSnapshot_dev (s : State) : (acceptSnapshot s).dev = s.dev := rfl
@[simp] theorem acceptSnapshot_target (s : State) : (acceptSnapshot s).target = s.target := rfl
@[simp] theorem acceptSnapshot_seq (s : State) : (acceptSnapshot s).seq = s.seq := rfl
@[simp] theorem acceptSnapshot_res (s : State) : (acceptSnapshot s).res = s.res := rfl
@[simp] theorem acceptSnapshot_lastErr (s : State) : (acceptSnapshot s).lastErr = s.lastErr := rfl
@[simp] theorem acceptSnapshot_sticky (s : State) : (acceptSnapshot s).sticky = s.sticky := rfl
@[simp] theorem acceptSnapshot_frames (s : State) : (acceptSnapshot s).frames = s.frames := rfl
@[simp] theorem acceptSnapshot_agenda (s : State) : (acceptSnapshot s).agenda = s.agenda := rfl
@[simp] theorem acceptSnapshot_draws (s : State) : (acceptSnapshot s).draws = s.draws := rfl

/-! ## recordTick -/

@[simp] theorem recordTick_params (s : State) : (recordTick s).params = s.params := rfl
@[simp] theorem recordTick_rstN (s : State) : (recordTick s).rstN = s.rstN := rfl
@[simp] theorem recordTick_cmdPort (s : State) : (recordTick s).cmdPort = s.cmdPort := rfl
@[simp] theorem recordTick_rspValid (s : State) : (recordTick s).rspValid = s.rspValid := rfl
@[simp] theorem recordTick_tcnt (s : State) : (recordTick s).tcnt = s.tcnt := rfl
@[simp] theorem recordTick_ext (s : State) : (recordTick s).ext = s.ext := rfl
@[simp] theorem recordTick_ovf (s : State) : (recordTick s).ovf = s.ovf := rfl
@[simp] theorem recordTick_toie (s : State) : (recordTick s).toie = s.toie := rfl
@[simp] theorem recordTick_lostOvf (s : State) : (recordTick s).lostOvf = s.lostOvf := rfl
@[simp] theorem recordTick_l1 (s : State) : (recordTick s).l1 = s.l1 := rfl
@[simp] theorem recordTick_eLatch (s : State) : (recordTick s).eLatch = s.eLatch := rfl
@[simp] theorem recordTick_l2 (s : State) : (recordTick s).l2 = s.l2 := rfl
@[simp] theorem recordTick_snap (s : State) : (recordTick s).snap = s.snap := rfl
@[simp] theorem recordTick_ring (s : State) : (recordTick s).ring = s.ring.set s.cur.toNat (tickDelta s) := rfl
@[simp] theorem recordTick_cur (s : State) : (recordTick s).cur = BitVec.ofNat 12 ((s.cur.toNat + 1) % s.params.cap) := rfl
@[simp] theorem recordTick_prev (s : State) : (recordTick s).prev = snapshotValue s := rfl
@[simp] theorem recordTick_freq (s : State) : (recordTick s).freq = s.freq := rfl
@[simp] theorem recordTick_wiper (s : State) : (recordTick s).wiper = s.wiper := rfl
@[simp] theorem recordTick_dev (s : State) : (recordTick s).dev = s.dev := rfl
@[simp] theorem recordTick_target (s : State) : (recordTick s).target = s.target := rfl
@[simp] theorem recordTick_seq (s : State) : (recordTick s).seq = s.seq := rfl
@[simp] theorem recordTick_res (s : State) : (recordTick s).res = s.res := rfl
@[simp] theorem recordTick_lastErr (s : State) : (recordTick s).lastErr = s.lastErr := rfl
@[simp] theorem recordTick_sticky (s : State) : (recordTick s).sticky = s.sticky := rfl
@[simp] theorem recordTick_frames (s : State) : (recordTick s).frames = s.frames := rfl
@[simp] theorem recordTick_agenda (s : State) : (recordTick s).agenda = s.agenda := rfl
@[simp] theorem recordTick_draws (s : State) : (recordTick s).draws = s.draws := rfl

/-! ## pulse -/

@[simp] theorem pulse_params (s : State) : (pulse s).params = s.params := by unfold pulse; split <;> rfl
@[simp] theorem pulse_rstN (s : State) : (pulse s).rstN = s.rstN := by unfold pulse; split <;> rfl
@[simp] theorem pulse_cmdPort (s : State) : (pulse s).cmdPort = s.cmdPort := by unfold pulse; split <;> rfl
@[simp] theorem pulse_rspValid (s : State) : (pulse s).rspValid = s.rspValid := by unfold pulse; split <;> rfl
@[simp] theorem pulse_ext (s : State) : (pulse s).ext = s.ext := by unfold pulse; split <;> rfl
@[simp] theorem pulse_toie (s : State) : (pulse s).toie = s.toie := by unfold pulse; split <;> rfl
@[simp] theorem pulse_l1 (s : State) : (pulse s).l1 = s.l1 := by unfold pulse; split <;> rfl
@[simp] theorem pulse_eLatch (s : State) : (pulse s).eLatch = s.eLatch := by unfold pulse; split <;> rfl
@[simp] theorem pulse_l2 (s : State) : (pulse s).l2 = s.l2 := by unfold pulse; split <;> rfl
@[simp] theorem pulse_snap (s : State) : (pulse s).snap = s.snap := by unfold pulse; split <;> rfl
@[simp] theorem pulse_ring (s : State) : (pulse s).ring = s.ring := by unfold pulse; split <;> rfl
@[simp] theorem pulse_cur (s : State) : (pulse s).cur = s.cur := by unfold pulse; split <;> rfl
@[simp] theorem pulse_prev (s : State) : (pulse s).prev = s.prev := by unfold pulse; split <;> rfl
@[simp] theorem pulse_freq (s : State) : (pulse s).freq = s.freq := by unfold pulse; split <;> rfl
@[simp] theorem pulse_wiper (s : State) : (pulse s).wiper = s.wiper := by unfold pulse; split <;> rfl
@[simp] theorem pulse_dev (s : State) : (pulse s).dev = s.dev := by unfold pulse; split <;> rfl
@[simp] theorem pulse_target (s : State) : (pulse s).target = s.target := by unfold pulse; split <;> rfl
@[simp] theorem pulse_seq (s : State) : (pulse s).seq = s.seq := by unfold pulse; split <;> rfl
@[simp] theorem pulse_res (s : State) : (pulse s).res = s.res := by unfold pulse; split <;> rfl
@[simp] theorem pulse_lastErr (s : State) : (pulse s).lastErr = s.lastErr := by unfold pulse; split <;> rfl
@[simp] theorem pulse_sticky (s : State) : (pulse s).sticky = s.sticky := by unfold pulse; split <;> rfl
@[simp] theorem pulse_frames (s : State) : (pulse s).frames = s.frames := by unfold pulse; split <;> rfl
@[simp] theorem pulse_agenda (s : State) : (pulse s).agenda = s.agenda := by unfold pulse; split <;> rfl
@[simp] theorem pulse_draws (s : State) : (pulse s).draws = s.draws := by unfold pulse; split <;> rfl

theorem pulse_tcnt (s : State) : (pulse s).tcnt = s.tcnt + 1 := by
  unfold pulse; split
  case isTrue h => simp [h]
  case isFalse => rfl

theorem pulse_ovf (s : State) : (pulse s).ovf = (s.ovf || decide (s.tcnt = 0xFF)) := by
  unfold pulse; split
  case isTrue h => simp [h]
  case isFalse h => simp only [decide_eq_false h, Bool.or_false]

theorem pulse_lostOvf (s : State) : (pulse s).lostOvf = (s.lostOvf || (s.ovf && decide (s.tcnt = 0xFF))) := by
  unfold pulse; split
  case isTrue h => simp [h]
  case isFalse h => simp only [decide_eq_false h, Bool.and_false, Bool.or_false]

/-! ## dropEvent -/

@[simp] theorem dropEvent_params (s : State) : (dropEvent s).params = s.params := by unfold dropEvent; split <;> rfl
@[simp] theorem dropEvent_rstN (s : State) : (dropEvent s).rstN = s.rstN := by unfold dropEvent; split <;> rfl
@[simp] theorem dropEvent_cmdPort (s : State) : (dropEvent s).cmdPort = s.cmdPort := by unfold dropEvent; split <;> rfl
@[simp] theorem dropEvent_rspValid (s : State) : (dropEvent s).rspValid = s.rspValid := by unfold dropEvent; split <;> rfl
@[simp] theorem dropEvent_tcnt (s : State) : (dropEvent s).tcnt = s.tcnt := by unfold dropEvent; split <;> rfl
@[simp] theorem dropEvent_ext (s : State) : (dropEvent s).ext = s.ext := by unfold dropEvent; split <;> rfl
@[simp] theorem dropEvent_ovf (s : State) : (dropEvent s).ovf = s.ovf := by unfold dropEvent; split <;> rfl
@[simp] theorem dropEvent_toie (s : State) : (dropEvent s).toie = s.toie := by unfold dropEvent; split <;> rfl
@[simp] theorem dropEvent_lostOvf (s : State) : (dropEvent s).lostOvf = s.lostOvf := by unfold dropEvent; split <;> rfl
@[simp] theorem dropEvent_l1 (s : State) : (dropEvent s).l1 = s.l1 := by unfold dropEvent; split <;> rfl
@[simp] theorem dropEvent_eLatch (s : State) : (dropEvent s).eLatch = s.eLatch := by unfold dropEvent; split <;> rfl
@[simp] theorem dropEvent_l2 (s : State) : (dropEvent s).l2 = s.l2 := by unfold dropEvent; split <;> rfl
@[simp] theorem dropEvent_snap (s : State) : (dropEvent s).snap = s.snap := by unfold dropEvent; split <;> rfl
@[simp] theorem dropEvent_ring (s : State) : (dropEvent s).ring = s.ring := by unfold dropEvent; split <;> rfl
@[simp] theorem dropEvent_cur (s : State) : (dropEvent s).cur = s.cur := by unfold dropEvent; split <;> rfl
@[simp] theorem dropEvent_prev (s : State) : (dropEvent s).prev = s.prev := by unfold dropEvent; split <;> rfl
@[simp] theorem dropEvent_freq (s : State) : (dropEvent s).freq = s.freq := by unfold dropEvent; split <;> rfl
@[simp] theorem dropEvent_wiper (s : State) : (dropEvent s).wiper = s.wiper := by unfold dropEvent; split <;> rfl
@[simp] theorem dropEvent_dev (s : State) : (dropEvent s).dev = s.dev := by unfold dropEvent; split <;> rfl
@[simp] theorem dropEvent_target (s : State) : (dropEvent s).target = s.target := by unfold dropEvent; split <;> rfl
@[simp] theorem dropEvent_seq (s : State) : (dropEvent s).seq = s.seq := by unfold dropEvent; split <;> rfl
@[simp] theorem dropEvent_res (s : State) : (dropEvent s).res = s.res := by unfold dropEvent; split <;> rfl
@[simp] theorem dropEvent_lastErr (s : State) : (dropEvent s).lastErr = s.lastErr := by unfold dropEvent; split <;> rfl
@[simp] theorem dropEvent_sticky (s : State) : (dropEvent s).sticky = s.sticky := by unfold dropEvent; split <;> rfl
@[simp] theorem dropEvent_frames (s : State) : (dropEvent s).frames = s.frames := by unfold dropEvent; split <;> rfl

theorem dropEvent_cons {s : State} {ev : Event} {evs : List Event} (h : s.agenda = ev :: evs) :
    dropEvent s = { s with agenda := evs } := by simp [dropEvent, h]

theorem nextEvent_cons {s : State} {ev : Event} {evs : List Event} (h : s.agenda = ev :: evs) :
    nextEvent s = ev := by simp [nextEvent, h]

end Sys2Proof.Machine
end

