-- ==== Sys2Proof/Laws/Ops.lean ====
section
/-!
SUPPORT. One lemma per shared operation, saying once everything it can do.
-/
namespace Sys2Proof.Machine

/-! ## Checks -/

theorem checked_of_legal {legal : Bool} {code : CmdError} {s s' : State} (h : legal = true) :
    checked legal code s s' = .next s' := by
  simp [checked, h]

theorem checked_of_illegal {legal : Bool} {code : CmdError} {s s' : State} (h : legal = false) :
    checked legal code s s' = .next (raiseErr code s) := by
  simp [checked, h]

/-! ## The coarse frame of a TUNE -/

theorem sendCoarse_cases (k1 : Byte) (s : State) :
    sendCoarse k1 s = sendWiper .coarse k1 s ∧ k1 ≠ s.wiper.coarse ∨ sendCoarse k1 s = s ∧ k1 = s.wiper.coarse := by
  unfold sendCoarse
  split
  case isTrue h => exact .inl ⟨rfl, h⟩
  case isFalse h => exact .inr ⟨rfl, not_not.mp h⟩

/-! ## The serial port between micro-steps (10_state.md R22) -/

theorem csLines_eq_idle (s : State) : csLines s = csIdle := by
  have last (f : Frame) : (frameLines f).getLast? = some (csIdle, none) := List.getLast?_concat ..
  unfold csLines serialLines
  induction s.frames using List.reverseRecOn with
  | nil => rfl
  | append_singleton fs f _ => simp [last]

/-! ## The snapshot micro-steps, by phase (40_timer_counter.md R104) -/

variable {s : State} {c c' : Word} {finish : State → State}

theorem snapshotStep_s0 (h : phaseOf s.seq = .s0) :
    snapshotStep c finish s = { s with toie := false, seq := .busy c .s1 } := by
  simp [snapshotStep, h]

theorem snapshotStep_s1 (h : phaseOf s.seq = .s1) :
    snapshotStep c finish s = { s with l1 := s.tcnt, seq := .busy c .s2 } := by
  simp [snapshotStep, h]

theorem snapshotStep_s2 (h : phaseOf s.seq = .s2) :
    snapshotStep c finish s = { s with eLatch := s.ext, seq := .busy c .s3 } := by
  simp [snapshotStep, h]

theorem snapshotStep_s3 (h : phaseOf s.seq = .s3) :
    snapshotStep c finish s = { s with l2 := s.tcnt, seq := .busy c .s4 } := by
  simp [snapshotStep, h]

theorem snapshotStep_s4 (h : phaseOf s.seq = .s4) :
    snapshotStep c finish s = { s with seq := .busy c (if s.l1 ≠ s.l2 then .s1 else .s5) } := by
  simp [snapshotStep, h]

theorem snapshotStep_s5 (h : phaseOf s.seq = .s5) : snapshotStep c finish s = finish s := by
  simp [snapshotStep, h]

end Sys2Proof.Machine
end

