-- ==== Sys2Proof/Laws/PerInstr.lean ====
section
/-!
SUPPORT. The family EncodedFields: the fields of a command's word (30_encoding.md R80, R81, R83), one lemma a command.
-/
namespace Sys2Proof.Laws.EncodedFields

/-- The OP number of a command (R83). -/
def opNumber : Instr → Nat
  | .snap      => 0x1
  | .etick     => 0x2
  | .eqry      => 0x3
  | .pset _ _  => 0x4
  | .psetr _ _ => 0x5
  | .pr2w _ _  => 0x6
  | .pw2r _ _  => 0x7
  | .tune      => 0x8
  | .stgt _    => 0x9
  | .rdreg _   => 0xA

/-- The command's word has its OP number in bits 31:28 and zeros in bits 25:24. -/
def Statement (i : Instr) : Prop :=
  (encode i).toNat / 2 ^ 28 = opNumber i ∧ (encode i).toNat / 2 ^ 24 % 4 = 0

/-- The statement, from the fields of the packed word. -/
theorem of_packed {i : Instr} {op : BitVec 4} {ch : BitVec 2} {imm : Imm} (h : encode i = packWord op ch imm)
    (hop : op.toNat = opNumber i) : Statement i := by
  refine ⟨?_, ?_⟩
  · rw [← opField_toNat, h, opField_packWord, hop]
  · rw [← rsvField_toNat, h, rsvField_packWord]
    rfl

theorem snap : Statement .snap := of_packed rfl rfl
theorem etick : Statement .etick := of_packed rfl rfl
theorem eqry : Statement .eqry := of_packed rfl rfl
theorem pset (ch : Channel) (w : Imm) : Statement (.pset ch w) := of_packed rfl rfl
theorem psetr (ch : Channel) (r : Imm) : Statement (.psetr ch r) := of_packed rfl rfl
theorem pr2w (ch : Channel) (r : Imm) : Statement (.pr2w ch r) := of_packed rfl rfl
theorem pw2r (ch : Channel) (w : Imm) : Statement (.pw2r ch w) := of_packed rfl rfl
theorem tune : Statement .tune := of_packed rfl rfl
theorem stgt (t : Imm) : Statement (.stgt t) := of_packed rfl rfl
theorem rdreg (idx : Imm) : Statement (.rdreg idx) := of_packed rfl rfl

end Sys2Proof.Laws.EncodedFields
end

