-- ==== Sys2Proof/Laws/Step.lean ====
section
/-!
SUPPORT. What a micro-step of SEQ, an event and a step can do, said once each.
-/
namespace Sys2Proof.Machine

/-- Every micro-step of every command answers a next state (60_exceptions.md R234). -/
theorem exec_next (i : Instr) (s : State) : ∃ t, exec i s = .next t := by
  cases i with
  | tune =>
    simp only [exec, execTune]
    split <;> exact ⟨_, rfl⟩
  | rdreg idx =>
    simp only [exec, execRdreg]
    split <;> exact ⟨_, rfl⟩
  | _ => exact ⟨_, rfl⟩

variable {s : State} {c : Word} {k : Phase} {ev : Event}

theorem seqStep_idle (h : s.seq = .idle) : seqStep s = .next s := by
  simp [seqStep, commandWord, h]

theorem seqStep_error {code : CmdError} (h : s.seq = .busy c k) (hd : decode c = .error code) :
    seqStep s = .next (raiseErr code s) := by
  simp [seqStep, commandWord, h, hd]

theorem seqStep_ok {i : Instr} (h : s.seq = .busy c k) (hd : decode c = .ok i) : seqStep s = exec i s := by
  simp [seqStep, commandWord, h, hd]

/-- A micro-step of SEQ: nothing in progress, a failed check, or the command's rule. -/
theorem seqStep_cases (s : State) :
    (s.seq = .idle ∧ seqStep s = .next s) ∨
    (∃ c k code, s.seq = .busy c k ∧ decode c = .error code ∧ seqStep s = .next (raiseErr code s)) ∨
    (∃ c k i, s.seq = .busy c k ∧ decode c = .ok i ∧ seqStep s = exec i s) := by
  cases hs : s.seq with
  | idle => exact .inl ⟨rfl, seqStep_idle hs⟩
  | busy c k =>
    cases hd : decode c with
    | error code => exact .inr (.inl ⟨c, k, code, rfl, hd, seqStep_error hs hd⟩)
    | ok i => exact .inr (.inr ⟨c, k, i, rfl, hd, seqStep_ok hs hd⟩)

theorem react_disabled (h : enabled ev s = false) : react ev s = .next s := by
  simp [react, h]

theorem react_seq (h : enabled .seq s = true) : react .seq s = seqStep s := by
  simp [react, h]

theorem react_fire (h : enabled ev s = true) (hev : ev ≠ .seq) : react ev s = .next (fire ev s) := by
  cases ev <;> simp_all [react]

/-- An event: disabled, a micro-step of SEQ, or the effect of another agent or input. -/
theorem react_cases (ev : Event) (s : State) :
    (enabled ev s = false ∧ react ev s = .next s) ∨
    (ev = .seq ∧ enabled .seq s = true ∧ react ev s = seqStep s) ∨
    (ev ≠ .seq ∧ enabled ev s = true ∧ react ev s = .next (fire ev s)) := by
  cases h : enabled ev s with
  | false => exact .inl ⟨rfl, react_disabled h⟩
  | true =>
    by_cases hev : ev = .seq
    · subst hev
      exact .inr (.inl ⟨rfl, h, react_seq h⟩)
    · exact .inr (.inr ⟨hev, rfl, react_fire h hev⟩)

end Sys2Proof.Machine
end

