-- ==== Sys2Proof/Tests/Slice0.lean ====
section
/-!
SUPPORT. Tests of single steps on small states, expected results from 95_test_vectors.md (the vector's name stands before
each test); the decoder on words written from 30_encoding.md; ill-formed terms that WellFormed refuses; and, for every
obligation with hypotheses, a concrete case that meets them.
-/
namespace Sys2Proof.Tests

open Sys2Proof.Machine Sys2Proof.Safety Sys2Proof.Claims

/-! ## Helpers -/

/-- The reset state of 95_test_vectors.md section 0, with the bytes reset leaves open set to 0. -/
def quiet : State := { State.reset with l1 := 0, eLatch := 0, l2 := 0, dev := ⟨0, 0, 0⟩ }

/-- The next state an answer gives. -/
def got (r : Result) : Option State :=
  match r with
  | .next t => some t
  | _       => none

/-- One field, or several, of the next state an answer gives. -/
def field {α : Type} (f : State → α) (r : Result) : Option α := (got r).map f

/-- The word accepted, its command in its first micro-step. -/
def started (c : Word) (s : State) : State := { s with seq := .busy c .s0 }

/-- `quiet` with these counter registers, SEQ at a micro-step of SNAP and TOIE as there. -/
def snapAtPhase (k : Phase) (tcnt ext : Byte) (ovf : Bool) : State :=
  { quiet with tcnt := tcnt, ext := ext, ovf := ovf, toie := decide (k = .s0), seq := .busy (word 0x1 0 0) k }

/-- `quiet` with these wipers and this FREQ. -/
def tuner (fine coarse : Byte) (freq : Word) : State :=
  { quiet with freq := freq, wiper := { quiet.wiper with fine := fine, coarse := coarse } }

/-- What a TUNE leaves: the fine and the coarse wiper, RES, the frames. -/
def tuneOutcome (s : State) : Byte × Byte × Word × List Frame := (s.wiper.fine, s.wiper.coarse, s.res, s.frames)

/-! ## WellFormed refuses -/

theorem test_wellFormed_refuses_wiper : (Instr.pset .fine 256).wellFormed Config.vectorParams = false := by decide
theorem test_wellFormed_admits_wiper : (Instr.pset .fine 255).wellFormed Config.vectorParams = true := by decide
theorem test_wellFormed_refuses_resistance : (Instr.psetr .coarse 10001).wellFormed Config.vectorParams = false := by decide
theorem test_wellFormed_refuses_resistance_of_pr2w : (Instr.pr2w .pwm 10001).wellFormed Config.vectorParams = false := by
  decide
theorem test_wellFormed_refuses_wiper_of_pw2r : (Instr.pw2r .fine 256).wellFormed Config.vectorParams = false := by decide
theorem test_wellFormed_refuses_low_target : (Instr.stgt 19999).wellFormed Config.vectorParams = false := by decide
theorem test_wellFormed_refuses_high_target : (Instr.stgt 35001).wellFormed Config.vectorParams = false := by decide
theorem test_wellFormed_refuses_index : (Instr.rdreg 0x0C).wellFormed Config.vectorParams = false := by decide
theorem test_wellFormed_refuses_ring_index : (Instr.rdreg 0x1004).wellFormed Config.vectorParams = false := by decide
theorem test_wellFormed_admits_ring_index : (Instr.rdreg 0x1003).wellFormed Config.vectorParams = true := by decide

theorem test_legal_params : Config.vectorParams.Legal := by decide
theorem test_legal_refuses_cap : ¬ { Config.vectorParams with cap := 0 }.Legal := by decide
theorem test_legal_refuses_large_cap : ¬ { Config.vectorParams with cap := 4097 }.Legal := by decide
theorem test_legal_refuses_pwm_steps : ¬ { Config.vectorParams with stepsPwm := 257 }.Legal := by decide
theorem test_legal_refuses_coarse_steps : ¬ { Config.vectorParams with stepsCoarse := 0 }.Legal := by decide
theorem test_legal_refuses_maxR : ¬ { Config.vectorParams with maxR := ⟨0, 1, 1⟩ }.Legal := by decide
theorem test_legal_refuses_reset_wiper :
    ¬ { Config.vectorParams with stepsCoarse := 10, resetWiperCoarse := 10 }.Legal := by decide
theorem test_legal_refuses_reset_target : ¬ { Config.vectorParams with resetTarget := 19999 }.Legal := by decide

/-! ## Decoding, the words from 30_encoding.md R80 to R83 and 95_test_vectors.md -/

theorem test_decode_snap : decode 0b00010000000000000000000000000000 = .ok .snap := by rfl
theorem test_decode_etick : decode 0b00100000000000000000000000000000 = .ok .etick := by rfl
theorem test_decode_eqry : decode 0b00110000000000000000000000000000 = .ok .eqry := by rfl
theorem test_decode_pset : decode 0b01001000000000000000000010100101 = .ok (.pset .fine 0xA5) := by rfl
theorem test_decode_psetr : decode 0b01010100000000000001001110001000 = .ok (.psetr .coarse 5000) := by rfl
theorem test_decode_pr2w : decode 0b01101000000000000000000000010100 = .ok (.pr2w .fine 20) := by rfl
theorem test_decode_pw2r : decode 0b01110000000000000000000000000001 = .ok (.pw2r .pwm 1) := by rfl
theorem test_decode_tune : decode 0b10000000000000000000000000000000 = .ok .tune := by rfl
theorem test_decode_stgt : decode 0b10010000000000000110110101100000 = .ok (.stgt 28000) := by rfl
theorem test_decode_rdreg : decode 0b10100000000000000001000000000011 = .ok (.rdreg 0x1003) := by rfl
/-- Every bit of the immediate is read. -/
theorem test_decode_widest_immediate : decode 0x44FFFFFF = .ok (.pset .coarse 0xFFFFFF) := by rfl

/-- V-D1 to V-D4. -/
theorem test_decode_illegal_opcode :
    decode 0x00000000 = .error .illegalOpcode ∧ decode 0xB0000000 = .error .illegalOpcode ∧
    decode 0xF0000000 = .error .illegalOpcode ∧ decode 0x01000000 = .error .illegalOpcode := ⟨rfl, rfl, rfl, rfl⟩
/-- V-D5 to V-D8, V-D12. -/
theorem test_decode_reserved_nonzero :
    decode 0x11000000 = .error .reservedNonzero ∧ decode 0x1C000000 = .error .reservedNonzero ∧
    decode 0x10000001 = .error .reservedNonzero ∧ decode 0x4D000010 = .error .reservedNonzero ∧
    decode 0x94006D60 = .error .reservedNonzero := ⟨rfl, rfl, rfl, rfl, rfl⟩
/-- V-D9, V-D10. -/
theorem test_decode_channel_invalid :
    decode 0x4C000100 = .error .channelInvalid ∧ decode 0x4C000010 = .error .channelInvalid := ⟨rfl, rfl⟩
theorem test_encode_pset : encode (.pset .fine 0xA5) = 0x480000A5 := by rfl
theorem test_table_word : decodeTableWord 32 0x90006D60 = some (.stgt 28000) := by rfl

/-- 30_encoding.md R90's example, and R91. -/
theorem test_assemble : assemble (.pset (.name .fine) 0xA5) = some [0x480000A5] := by rfl
theorem test_assemble_rdwiper : assemble (.rdwiper (.number 2)) = some [0xA0000008] := by rfl
theorem test_assemble_refuses_channel : assemble (.pset (.number 3) 0) = none := by rfl
theorem test_assemble_eqry : assemble .eqry = some [0x30000000] := by rfl

/-- 10_state.md R22: all chip-selects are high after a frame. -/
theorem test_chip_selects_after_frame : csLines { quiet with frames := [⟨.fine, 0x00, 0xA5⟩] } = 0b111 := by decide

/-! ## One step -/

/-- V-D7: the check precedes S0's write of TOIE. -/
theorem test_error_before_effect :
    field (fun t => (t.toie, t.res, t.seq, statusWord t)) (react .seq (started 0x10000001 quiet)) =
      some (true, 0, .idle, 0x32) := by decide
/-- V-D11. -/
theorem test_operand_error :
    field (fun t => (t.frames, t.res, statusWord t)) (react .seq (started 0x4800012C quiet)) = some ([], 0, 0x34) := by
  decide
/-- The word placed for the next step runs in it. -/
theorem test_withFetchWord_runs :
    field (fun t => (t.target, t.res)) (step (State.reset.withFetchWord 32 0x90004E20)) = some (20000, 20000) := by rfl

/-- V-T7. -/
theorem test_pulse_loses_overflow :
    field (fun t => (t.tcnt, t.ovf, t.lostOvf, extCount t))
      (react (.pulseIn .rising) { quiet with tcnt := 0xFF, ext := 0x12, ovf := true }) =
      some (0x00, true, true, 0x1300) := by decide
/-- An edge of the other polarity is no PULSE step. -/
theorem test_pulse_other_edge :
    field (fun t => t.tcnt) (react (.pulseIn .falling) { quiet with tcnt := 0x10 }) = some 0x10 := by decide
/-- V-T6. -/
theorem test_service_wraps :
    field (fun t => (t.ext, t.ovf, t.tcnt))
      (react .service { quiet with tcnt := 0x10, ext := 0xFF, ovf := true }) = some (0x00, false, 0x10) := by decide
/-- V-T9. -/
theorem test_service_disabled :
    field (fun t => (t.ext, t.ovf))
      (react .service { quiet with ext := 0x12, ovf := true, toie := false }) = some (0x12, true) := by decide

/-- V-T1's last micro-step. -/
theorem test_snap_completes :
    field (fun t => (t.snap, t.res, t.toie, t.seq))
      (exec .snap { snapAtPhase .s5 0x34 0x12 false with l1 := 0x34, eLatch := 0x12, l2 := 0x34 }) =
      some (0x1234, 0x1234, true, .idle) := by decide
/-- V-T2's retry. -/
theorem test_snap_retries :
    field (fun t => (t.seq, t.toie))
      (exec .snap { snapAtPhase .s4 0x35 0x12 false with l1 := 0x34, eLatch := 0x12, l2 := 0x35 }) =
      some (.busy 0x10000000 .s1, false) := by decide
/-- V-E3. -/
theorem test_etick_wraps :
    field (fun t => (t.ring, t.prev, t.cur, t.res))
      (exec .etick { quiet with
        seq := .busy (word 0x2 0 0) .s5, eLatch := 0x00, l1 := 0x10, prev := 0xFFF0, cur := 3, toie := false }) =
      some ([0, 0, 0, 0x0020], 0x0010, 0, 0x20) := by decide
/-- The second tick of V-E7 (CAP = 1). -/
theorem test_etick_capacity_one :
    field (fun t => (t.ring, t.prev, t.cur, t.res))
      (exec .etick { quiet with
        params := { Config.vectorParams with cap := 1 }, ring := [50], prev := 50
        seq := .busy (word 0x2 0 0) .s5, l1 := 80, toie := false }) =
      some ([30], 80, 0, 30) := by decide
/-- V-E5. -/
theorem test_eqry_w16 :
    field (fun t => (t.freq, t.res)) (exec .eqry { quiet with ring := [0xFFFF, 0x0002, 0, 0] }) = some (1, 1) := by decide
/-- V-E5 with SUM_WIDTH = 32. -/
theorem test_eqry_w32 :
    field (fun t => t.freq)
      (exec .eqry { quiet with
        params := { Config.vectorParams with sumWidth := .w32 }, ring := [0xFFFF, 0x0002, 0, 0] }) =
      some 0x00010001 := by decide

/-- V-P4a. -/
theorem test_pset :
    field (fun t => (t.frames, t.wiper, t.dev.fine, t.res)) (exec (.pset .fine 0xA5) quiet) =
      some ([⟨.fine, 0x00, 0xA5⟩], ⟨0, 128, 0xA5⟩, 0xA5, 0xA5) := by decide
/-- V-P4d: the frame is sent although the wiper holds the value. -/
theorem test_pset_sends_anyway :
    field (fun t => (t.frames, t.wiper)) (exec (.pset .coarse 128) quiet) =
      some ([⟨.coarse, 0x00, 0x80⟩], ⟨0, 128, 128⟩) := by decide
/-- V-P6. -/
theorem test_frame_bits :
    frameLines ⟨.fine, 0x00, 0xA5⟩ =
      (0b011, none) :: [false, false, false, false, false, false, false, false,
        true, false, true, false, false, true, false, true].map (fun b => (0b011, some b)) ++ [(0b111, none)] := by decide
/-- V-P4g: clamped. -/
theorem test_psetr_clamps :
    field (fun t => (t.frames, t.res)) (exec (.psetr .coarse 10000) quiet) = some ([⟨.coarse, 0x00, 0xFF⟩], 0xFF) := by
  decide
/-- V-P4h. -/
theorem test_psetr_out_of_range :
    field (fun t => (t.frames, t.wiper, statusWord t)) (exec (.psetr .coarse 10001) quiet) =
      some ([], ⟨0, 128, 128⟩, 0x34) := by decide
/-- V-P1, r = 20 and r = 19. -/
theorem test_pr2w :
    field (fun t => (t.res, t.frames)) (exec (.pr2w .fine 20) quiet) = some (1, []) ∧
    field (fun t => t.res) (exec (.pr2w .fine 19) quiet) = some 0 := by decide
/-- V-P1, r = 9981: the first that clamps; V-P5: ties. -/
theorem test_r2w_clamp_and_ties :
    r2w Config.vectorParams .fine 9981 = 255 ∧ r2w { Config.vectorParams with maxR := ⟨1, 1, 512⟩ } .fine 1 = 1 ∧
    r2w { Config.vectorParams with maxR := ⟨1, 1, 512⟩ } .fine 3 = 2 := by decide
/-- V-P4j. -/
theorem test_pw2r : field (fun t => (t.res, t.frames)) (exec (.pw2r .fine 1) quiet) = some (39, []) := by decide
/-- V-P4k. -/
theorem test_pw2r_out_of_range : field statusWord (exec (.pw2r .fine 256) quiet) = some 0x34 := by decide

/-- V-U8: no 8-bit wrap below 0, a carry down. -/
theorem test_tune_carries :
    field tuneOutcome (exec .tune (tuner 0 100 28100)) =
      some (128, 99, 0x5, [⟨.fine, 0x00, 0x80⟩, ⟨.coarse, 0x00, 0x63⟩]) := by decide
/-- V-U11: the coarse wiper at its rail. -/
theorem test_tune_clamps :
    field tuneOutcome (exec .tune (tuner 228 255 27900)) = some (128, 255, 0xE, [⟨.fine, 0x00, 0x80⟩]) := by decide
/-- V-S2. -/
theorem test_stgt : field (fun t => (t.target, t.res)) (exec (.stgt 20000) quiet) = some (20000, 20000) := by decide
/-- V-S5. -/
theorem test_stgt_out_of_range :
    field (fun t => (t.target, statusWord t)) (exec (.stgt 35001) quiet) = some (28000, 0x34) := by decide
/-- V-R10: the value before this command's own completion. -/
theorem test_rdreg_status :
    field (fun t => (t.res, statusWord t))
      (exec (.rdreg 0) { quiet with lastErr := some .operandRange, sticky := true }) = some (0x34, 0x30) := by decide
/-- V-R6 and V-R7. -/
theorem test_rdreg_ring_end :
    field (fun t => t.res) (exec (.rdreg 0x1003) { quiet with ring := [1, 2, 3, 4] }) = some 4 ∧
    field statusWord (exec (.rdreg 0x1004) quiet) = some 0x34 := by decide

/-- 70_reset_and_hazards.md R251: reset sends no frame and the device keeps its wiper. -/
theorem test_reset_keeps_devices :
    field (fun t => (t.dev, t.frames, t.wiper.fine, t.rstN, t.seq))
      (react (.rst false) { started 0x80000000 (tuner 5 6 7) with dev := ⟨1, 2, 3⟩, frames := [⟨.fine, 0, 5⟩] }) =
      some (⟨1, 2, 3⟩, [], 128, false, .idle) := by decide
/-- 10_state.md R21: a presented command is accepted when SEQ is idle, and not while one is in progress. -/
theorem test_accept :
    field (fun t => t.seq) (react .accept { quiet with cmdPort := some 0x80000000 }) = some (.busy 0x80000000 .s0) ∧
    field (fun t => t.seq) (react .accept { started 0x30000000 quiet with cmdPort := some 0x80000000 }) =
      some (.busy 0x30000000 .s0) := by decide

/-! ## Witnesses: for each obligation with hypotheses, cases that meet them -/

theorem witness_everyWord :
    (1 ≤ opOf 0x11000000 ∧ opOf 0x11000000 ≤ 0xA ∧ rsvOf 0x11000000 ≠ 0) ∧
    (formatN (opOf 0x80000001) ∧ immOf 0x80000001 ≠ 0) ∧ (formatN (opOf 0x1C000000) ∧ chOf 0x1C000000 ≠ 0) ∧
    (opOf 0xA4000000 ≤ 0xA ∧ formatI (opOf 0xA4000000) ∧ chOf 0xA4000000 ≠ 0) := by decide

theorem witness_firstFailingCheck :
    ((started 0 quiet).rstN = true ∧ (started 0 quiet).seq = .busy 0 .s0) ∧
    opOf 0x00000000 = 0 ∧ 0xB ≤ opOf 0xB0000000 ∧ (opOf 0x4D000010 = 4 ∧ rsvOf 0x4D000010 ≠ 0) ∧
    (formatC (opOf 0x4C000100) ∧ rsvOf 0x4C000100 = 0 ∧ chOf 0x4C000100 = 3) := by decide

theorem witness_outOfRange :
    outOfRange Config.vectorParams 0x48000100 ∧ outOfRange Config.vectorParams 0x54002711 ∧
    outOfRange Config.vectorParams 0x90004E1F ∧ outOfRange Config.vectorParams 0xA0001004 :=
  ⟨.inl ⟨by decide, .fine, by decide, by decide⟩, .inr (.inl ⟨by decide, .coarse, by decide, by decide⟩),
    .inr (.inr (.inl (by decide))), .inr (.inr (.inr (by decide)))⟩

theorem witness_inRange :
    ¬ outOfRange Config.vectorParams 0x480000FF ∧ ¬ outOfRange Config.vectorParams 0x54002710 ∧
    ¬ outOfRange Config.vectorParams 0x90004E20 ∧ ¬ outOfRange Config.vectorParams 0xA0001003 := by
  refine ⟨?_, ?_, ?_, ?_⟩ <;> rintro (⟨h, ch, hc, hs⟩ | ⟨h, ch, hc, hs⟩ | h | h) <;>
    first | (revert h; decide) | (revert hs hc; cases ch <;> decide)

/-- Both forms of a channel, at the last legal number and the first that is refused. -/
theorem witness_assembledLines :
    ((0xFFFFFF : Nat) < 2 ^ 24 ∧ 2 ^ 24 ≤ (0x1000000 : Nat) ∧ (3 : Nat) ≤ 3) ∧ chNum .fine = 2 ∧
    AsmChannel.name .pwm = .name .pwm ∧ AsmChannel.number 2 = .number (chNum .fine) := by decide

theorem witness_stepRuns :
    let s := { started 0x80000000 quiet with agenda := [.seq] }
    s.rstN = true ∧ s.agenda = [.seq] ∧ s.seq = .busy 0x80000000 .s0 ∧ decode 0x80000000 = .ok .tune ∧
      quiet.agenda = [] := by decide

theorem witness_commandPort :
    (cmdReady { quiet with cmdPort := some 0x80000000 } = true) ∧ cmdReady (started 0x80000000 quiet) = false ∧
    quiet.cmdPort = none ∧
    field (fun t => t.seq) (react .seq (started 0x80000000 quiet)) = some .idle ∧
    (quiet.seq = .idle ∧ (.service : Event) ≠ .accept ∧ (.service : Event) ≠ .rst false ∧
      react .service quiet = .next quiet) := by
  refine ⟨by decide, by decide, by decide, by decide, by decide, by decide, by decide, rfl⟩

theorem witness_agents :
    (quiet.ovf = false ∧ quiet.seq = .idle ∧ Edge.falling ≠ quiet.params.edge) ∧
    { quiet with toie := false }.toie = false ∧ { quiet with rstN := false }.rstN = false := by decide

theorem witness_pulse :
    quiet.rstN = true ∧ { quiet with tcnt := 0xFF }.tcnt = 0xFF ∧ { quiet with tcnt := 0xFE }.tcnt ≠ 0xFF := by decide

theorem witness_service :
    { quiet with ovf := true }.rstN = true ∧ { quiet with ovf := true }.ovf = true ∧
    { quiet with ovf := true }.toie = true := by decide

theorem witness_extendedCount :
    (field (fun t => extCount t) (react (.pulseIn .rising) { quiet with tcnt := 0xFF, ext := 0x12, ovf := true }) =
      some (0x13FF + 1 - 256)) ∧
    (field (fun t => extCount t) (react (.pulseIn .rising) { quiet with tcnt := 0xFF, ext := 0x12 }) = some 0x1300) ∧
    field (fun t => extCount t) (react .service { quiet with ext := 0x12, ovf := true }) = some 0x1300 := by decide

theorem witness_numberOfEdges :
    let evs : List Event := [.pulseIn .rising, .pulseIn .falling, .service, .pulseIn .rising]
    quiet.rstN = true ∧ (after evs { quiet with tcnt := 0xFF }).map (fun t => (t.lostOvf, extCount t)) =
      some (false, 0x0101) ∧ countedEdges quiet.params evs = 2 := by decide

theorem witness_numberOfEdges_no_reset :
    ∀ ev ∈ ([.pulseIn .rising, .pulseIn .falling, .service, .pulseIn .rising] : List Event), ∀ l, ev ≠ .rst l := by
  decide

theorem witness_snap_phases :
    (snapAtPhase .s0 0 0 false).seq = .busy (word 0x1 0 0) .s0 ∧ (snapAtPhase .s1 0 0 false).seq = .busy (word 0x1 0 0) .s1 ∧
    (snapAtPhase .s2 0 0 false).seq = .busy (word 0x1 0 0) .s2 ∧ (snapAtPhase .s3 0 0 false).seq = .busy (word 0x1 0 0) .s3 ∧
    (snapAtPhase .s4 0 0 false).l1 = (snapAtPhase .s4 0 0 false).l2 ∧
    { snapAtPhase .s4 0 0 false with l1 := 1 }.l1 ≠ (snapAtPhase .s4 0 0 false).l2 ∧
    (snapAtPhase .s5 0 0 false).seq = .busy (word 0x1 0 0) .s5 := by decide

theorem witness_formatN_words : opOf 0x10000001 = 1 ∧ (0x10000001 : Word) ≠ word 1 0 0 := by decide

/-- V-T1, whole. -/
theorem witness_uninterrupted :
    (snapAtPhase .s0 0x34 0x12 false).rstN = true ∧
    (after (List.replicate 6 .seq) (snapAtPhase .s0 0x34 0x12 false)).map (fun t => (t.snap, t.res, t.toie)) =
      some (0x1234, 0x1234, true) := by decide

theorem witness_toie :
    let s := { snapAtPhase .s5 0 0 false with toie := false }
    snapshotting (word 0x1 0 0) ∧ s.rstN = true ∧ s.seq = .busy (word 0x1 0 0) .s5 ∧
    field (fun t => t.toie) (react .seq s) = some true ∧ s.toie = false ∧
    field (fun t => t.toie) (react .seq (snapAtPhase .s0 0 0 false)) = some false := by decide

theorem witness_history : ∃ s, History [] s ∧ inCritical s.seq = false :=
  ⟨_, .reset Config.vectorParams [] (by decide), rfl⟩

/-- One more step of a run, its snapshots named. -/
theorem history_step {snaps snaps' : List Half} {s t : State} (run : History snaps s) (moved : step s = .next t)
    (h : snapsAfter (nextEvent s) s snaps = snaps') : History snaps' t := h ▸ .step run moved

/-- One counted edge, then an ETICK presented, accepted and run: its snapshot is 1. -/
theorem witness_ticked : ∃ s, History [1] s ∧ s.prev = 1 ∧ s.seq = .idle := by
  have h0 := History.reset Config.vectorParams
    [.pulseIn .rising, .host (some 0x20000000), .accept, .seq, .seq, .seq, .seq, .seq, .seq] (by decide)
  have h1 := history_step h0 rfl (snaps' := []) rfl
  have h2 := history_step h1 rfl (snaps' := []) rfl
  have h3 := history_step h2 rfl (snaps' := []) rfl
  have h4 := history_step h3 rfl (snaps' := []) rfl
  have h5 := history_step h4 rfl (snaps' := []) rfl
  have h6 := history_step h5 rfl (snaps' := []) rfl
  have h7 := history_step h6 rfl (snaps' := []) rfl
  have h8 := history_step h7 rfl (snaps' := []) rfl
  have h9 := history_step h8 rfl (snaps' := [1]) rfl
  exact ⟨_, h9, rfl, rfl⟩

/-- An attempt with a wrap before its S1 still pending, edges in the gaps after S3, and one with 256 edges between the reads
(V-T8): both accepted. -/
theorem witness_attempt :
    let s := snapAtPhase .s1 0x05 0x12 true
    (s.rstN = true ∧ s.toie = false ∧ snapshotting (word 0x1 0 0) ∧ s.seq = .busy (word 0x1 0 0) .s1) ∧
    (∀ ev ∈ ([.service] ++ [] ++ [.pulseIn .rising] ++ [.host none] : List Event), isOther ev = true) ∧
    (after (attempt [.service] [] [.pulseIn .rising] [.host none]) s).map (fun u => (u.seq, u.ext)) =
      some (.busy (word 0x1 0 0) .s5, 0x12) := by decide

/-- V-T5's value: stale by 256. -/
theorem witness_attempt_value :
    let s := snapAtPhase .s1 0x05 0x12 true
    (after (attempt [] [] [] [] ++ [.seq]) s).map (fun t => (t.snap, extCount t)) = some (0x1205, 0x1305) := by decide

theorem witness_failing_attempt :
    let s := snapAtPhase .s1 0x05 0x12 true
    (∀ ev ∈ ([.pulseIn .rising] ++ [] ++ [] ++ [] : List Event), isOther ev = true) ∧
    countedEdges s.params ([.pulseIn .rising] ++ []) % 256 ≠ 0 ∧
    countedEdges s.params ([] ++ [] : List Event) % 256 = 0 ∧
    (after (attempt [.pulseIn .rising] [] [] []) s).map (fun u => (u.seq, u.toie)) =
      some (.busy (word 0x1 0 0) .s1, false) := by decide

/-- V-T3's two attempts. -/
theorem witness_one_edge :
    let s := snapAtPhase .s1 0xFF 0x12 false
    s.rstN = true ∧ s.toie = false ∧ s.seq = .busy (word 0x1 0 0) .s1 ∧
    (after ([.seq, .seq, pulseEvent s.params, .seq, .seq] ++ List.replicate 5 .seq) s).map
      (fun t => (t.snap, t.ovf)) = some (0x1200, true) := by decide

theorem witness_etick_phases :
    let at' (k : Phase) : State := { quiet with seq := .busy (word 0x2 0 0) k }
    (at' .s0).seq = .busy (word 0x2 0 0) .s0 ∧ (at' .s3).seq = .busy (word 0x2 0 0) .s3 ∧
    (at' .s4).l1 = (at' .s4).l2 ∧ { at' .s4 with l1 := 1 }.l1 ≠ (at' .s4).l2 ∧
    (at' .s5).seq = .busy (word 0x2 0 0) .s5 := by decide

theorem witness_eqry_w32 :
    let s := { quiet with params := { Config.vectorParams with sumWidth := .w32 } }
    s.params.Legal ∧ s.ring.length = s.params.cap ∧ s.params.sumWidth = .w32 := by decide

theorem witness_window :
    Window [] quiet ∧ quiet.params.Legal ∧ ∃ t, step { quiet with agenda := [.service] } = .next t := by
  refine ⟨⟨rfl, rfl, rfl, ?_⟩, by decide, ⟨_, rfl⟩⟩
  decide

/-- The deltas and the window of V-E1 and V-E2. -/
theorem witness_window_sum :
    deltas [100, 300, 600, 1000, 1500, 2100] = [100, 200, 300, 400, 500, 600] ∧
    ((lastN 4 (deltas [100, 300, 600, 1000, 1500, 2100])).map BitVec.toNat).sum = 1800 ∧
    (snapAt [100, 300, 600, 1000, 1500, 2100] 6).toNat - (snapAt [100, 300, 600, 1000, 1500, 2100] 2).toNat = 1800 ∧
    snapAt [100, 300, 600, 1000] 0 = 0 := by decide

theorem witness_telescopes :
    ∃ s t, History [] s ∧ exec .eqry s = .next t ∧ s.params.sumWidth = .w16 :=
  ⟨_, _, .reset Config.vectorParams [] (by decide), rfl, rfl⟩

theorem witness_telescopes_w32 :
    ∃ s t, History [] s ∧ exec .eqry s = .next t ∧ s.params.sumWidth = .w32 ∧
      ∀ k : Int, (([] : List Half).length : Int) - s.params.cap < k → k ≤ ([] : List Half).length →
        (snapAt [] (k - 1)).toNat ≤ (snapAt [] k).toNat := by
  refine ⟨_, _, .reset { Config.vectorParams with sumWidth := .w32 } [] (by decide), rfl, rfl, fun k _ hk => ?_⟩
  have h1 : ¬ 1 ≤ k - 1 := by simp at hk; omega
  simp [snapAt, h1]

theorem witness_wiper_ranges :
    (255#24).toNat < stepsOf quiet.params .fine ∧ stepsOf quiet.params .fine ≤ (256#24).toNat ∧
    (10000#24).toNat ≤ maxROf quiet.params .coarse ∧ maxROf quiet.params .coarse < (10001#24).toNat := by decide

theorem witness_formatC_words :
    (opOf 0x4D000010 = 4 ∧ rsvOf 0x4D000010 ≠ 0) ∧ (opOf 0x5C000000 = 5 ∧ rsvOf 0x5C000000 = 0 ∧ chOf 0x5C000000 = 3) := by
  decide

theorem witness_round_trips :
    Config.vectorParams.Legal ∧ stepsOf Config.vectorParams .fine ≤ maxROf Config.vectorParams .fine ∧
    255 < stepsOf Config.vectorParams .fine ∧ 10000 ≤ maxROf Config.vectorParams .fine ∧
    ¬ halfUp (10000 * 256) 10000 ≤ 255 ∧ halfUp (20 * 256) 10000 ≤ 255 ∧
    w2r Config.vectorParams .fine (r2w Config.vectorParams .fine 20) = 39 := by decide

theorem witness_mirrors : MirrorsFrames quiet ∧ ∃ t, step { quiet with agenda := [.service] } = .next t :=
  ⟨⟨by decide, fun ch => by cases ch <;> rfl⟩, ⟨_, rfl⟩⟩

theorem witness_lines :
    let s := { quiet with frames := [⟨.fine, 0x00, 0xA5⟩] }
    (0b011, some true) ∈ serialLines s ∧ (0b011 : BitVec 3).getLsbD 2 = false ∧ (2 : Nat) < 3 := by decide

theorem witness_devices :
    field (fun t => (t.dev.fine, t.frames)) (react .seq (started 0x480000A5 quiet)) =
      some (0xA5, [⟨.fine, 0x00, 0xA5⟩]) ∧ (Event.seq ≠ .rst false) ∧ ∀ w, Event.seq ≠ .device .fine w :=
  ⟨by decide, by decide, fun _ h => by cases h⟩

theorem witness_invariant : Inv { quiet with agenda := [.service] } ∧ ∃ t, step { quiet with agenda := [.service] } = .next t :=
  ⟨{ params := by decide, ring := by decide, cur := by decide, freq := by decide, wiper := by intro ch; cases ch <;> decide
     target := by decide, toie := by decide, phase := trivial, latches := trivial, response := by decide
     held := by decide }, ⟨_, rfl⟩⟩

theorem witness_stgt_bounds :
    (20000 ≤ (20000#24).toNat ∧ (20000#24).toNat ≤ 35000) ∧ (20000 ≤ (35000#24).toNat ∧ (35000#24).toNat ≤ 35000) ∧
    (19999#24).toNat < 20000 ∧ 35000 < (35001#24).toNat := by decide

theorem witness_formatI_words :
    (opOf 0x94006D60 = 9 ∧ chOf 0x94006D60 ≠ 0) ∧ (opOf 0xA1000000 = 0xA ∧ rsvOf 0xA1000000 ≠ 0) := by decide

theorem witness_guard_check :
    (tuner 10 100 28000).freq.toNat = (tuner 10 100 28000).target.toNat ∧
    (tuner 10 100 28100).freq.toNat ≠ (tuner 10 100 28100).target.toNat ∧
    field tuneOutcome (exec .tune (tuner 10 100 28000)) = some (10, 100, 0, []) ∧
    field tuneOutcome (exec .tune (tuner 29 100 28100)) = some (28, 100, 1, [⟨.fine, 0, 28⟩]) ∧
    field tuneOutcome (exec .tune (tuner 28 100 28100)) =
      some (128, 99, 5, [⟨.fine, 0, 128⟩, ⟨.coarse, 0, 99⟩]) ∧
    field tuneOutcome (exec .tune (tuner 227 100 27900)) = some (228, 100, 2, [⟨.fine, 0, 228⟩]) :=
  ⟨by decide, by decide, by decide, by decide, by decide, by decide⟩

theorem witness_tuner_ranges :
    (tuner 28 255 27900).wiper.coarse.toNat < stepsOf quiet.params .coarse ∧ stepsOf quiet.params .coarse ≤ 256 ∧
    field (fun t => t.wiper.fine) (exec .tune (tuner 28 255 27900)) = some 29 := by decide

/-- A carry changes the coarse wiper; the premises of the two hundred-step clauses, at their rails. -/
theorem witness_crossing :
    field (fun t => (t.wiper.coarse, t.wiper.fine)) (exec .tune (tuner 28 100 28100)) = some (99, 128) ∧
    ((tuner 128 1 0).wiper.fine = 128 ∧ 0 < (tuner 128 1 0).wiper.coarse.toNat ∧
      ∀ f ∈ List.replicate 101 (28100 : Word), (tuner 128 1 0).target.toNat < f.toNat) ∧
    ((tuner 128 254 0).wiper.coarse.toNat + 1 < stepsOf quiet.params .coarse ∧
      ∀ f ∈ List.replicate 101 (27900 : Word), f.toNat < (tuner 128 254 0).target.toNat) := by
  refine ⟨by decide, ⟨by decide, by decide, fun f hf => ?_⟩, by decide, fun f hf => ?_⟩ <;>
    (rw [List.eq_of_mem_replicate hf]; decide)

theorem witness_rails :
    ((tuner 128 0 0).wiper.fine = 128 ∧ (tuner 128 0 0).wiper.coarse = 0 ∧
      ∀ f ∈ ([28100, 28001] : List Word), (tuner 128 0 0).target.toNat < f.toNat) ∧
    ((tuner 128 255 0).wiper.coarse.toNat = stepsOf quiet.params .coarse - 1 ∧
      ∀ f ∈ ([27900, 27999] : List Word), f.toNat < (tuner 128 255 0).target.toNat) := by
  refine ⟨⟨by decide, by decide, fun f hf => ?_⟩, by decide, fun f hf => ?_⟩ <;>
    (simp only [List.mem_cons, List.not_mem_nil, or_false] at hf; rcases hf with rfl | rfl <;> decide)

/-- V-U17's plant, on both sides of the target. -/
theorem witness_plant :
    (∀ a b : Nat, a ≤ b → 27005 + 10 * a ≤ 27005 + 10 * b) ∧
    (tuner 100 128 28005).freq.toNat = 27005 + 10 * (tuner 100 128 28005).wiper.fine.toNat ∧
    (tuner 100 128 28005).freq.toNat ≠ (tuner 100 128 28005).target.toNat ∧
    field (fun t => (t.wiper.fine, t.res.getLsbD 2)) (exec .tune (tuner 100 128 28005)) = some (99, false) :=
  ⟨fun a b h => by omega, by decide, by decide, by decide⟩

theorem witness_registers :
    registerNum quiet 0 = some 0x20 ∧ registerNum quiet 0xB = some 4 ∧ registerNum quiet 0xC = none ∧
    registerNum quiet 0xFFF = none ∧ registerNum quiet 0x1000 = some 0 ∧ registerNum quiet 0x1003 = some 0 ∧
    registerNum quiet 0x1004 = none := by decide

theorem witness_reads :
    (field (fun t => t.lastErr) (exec (.rdreg 0x1) quiet) = some none) ∧
    (field (fun t => t.lastErr) (exec (.pr2w .fine 20) quiet) = some none) ∧
    (field (fun t => t.lastErr) (exec (.pw2r .fine 1) quiet) = some none) ∧ (0x1 : Imm) ≠ 0 ∧ quiet.lastErr = none := by decide

/-- The SNAP of V-T1, twice. -/
theorem witness_snap_repeated :
    let s := snapAtPhase .s0 0x34 0x12 false
    let again (t : State) : State := { t with seq := .busy (word 0x1 0 0) .s0 }
    s.rstN = true ∧ s.seq = .busy (word 0x1 0 0) .s0 ∧
    (after (List.replicate 6 .seq) s).map (fun t => (t.snap, t.res)) = some (0x1234, 0x1234) ∧
    ((after (List.replicate 6 .seq) s).bind fun t => after (List.replicate 6 .seq) (again t)).map
      (fun t => (t.snap, t.res)) = some (0x1234, 0x1234) := by decide

theorem witness_own_state :
    (∃ t, exec .eqry quiet = .next t) ∧ Instr.eqry ≠ .snap ∧ Instr.eqry ≠ .etick ∧ (∀ ch v, Instr.eqry ≠ .pset ch v) ∧
    (∀ ch v, Instr.eqry ≠ .psetr ch v) ∧ Instr.eqry ≠ .tune ∧ (∀ v, Instr.eqry ≠ .stgt v) ∧ Instr.tune ≠ .eqry ∧
    (∀ idx : Imm, Instr.eqry = .rdreg idx → idx ≠ 0x0 ∧ idx ≠ 0x9 ∧ idx ≠ 0xA) :=
  ⟨⟨_, rfl⟩, nofun, nofun, nofun, nofun, nofun, nofun, nofun, nofun⟩

theorem witness_records :
    let s := { quiet with sticky := true, lostOvf := true }
    (∀ ev ∈ ([.service, .rst true] : List Event), ev ≠ .rst false) ∧
    (after [.service, .rst true] s).map (fun t => (t.sticky, t.lostOvf)) = some (true, true) := by decide

theorem witness_reset : Config.vectorParams.Legal := by decide

end Sys2Proof.Tests
end

section
/-!
PROOF. The registers of the timer counter under the micro-steps of SEQ, and the extended count X under every event
(10_state.md R32).
-/
namespace Sys2Proof.Machine

/-! ## The registers of the timer counter -/

/-- TCNT, EXT, OVF and LOSTOVF, which only PULSE, SERVICE and reset write (40_timer_counter.md section 1). -/
structure CounterRegs where
  tcnt    : Byte
  ext     : Byte
  ovf     : Bool
  lostOvf : Bool

/-- The counter registers of a state. -/
def counterRegs (s : State) : CounterRegs := ⟨s.tcnt, s.ext, s.ovf, s.lostOvf⟩

theorem counterRegs_eq_iff {s t : State} :
    counterRegs t = counterRegs s ↔
      t.tcnt = s.tcnt ∧ t.ext = s.ext ∧ t.ovf = s.ovf ∧ t.lostOvf = s.lostOvf := by
  simp [counterRegs]

@[simp] theorem counterRegs_complete (v : Word) (s : State) : counterRegs (complete v s) = counterRegs s := rfl
@[simp] theorem counterRegs_raiseErr (e : CmdError) (s : State) : counterRegs (raiseErr e s) = counterRegs s := rfl
@[simp] theorem counterRegs_sendWiper (ch : Channel) (w : Byte) (s : State) :
    counterRegs (sendWiper ch w s) = counterRegs s := rfl
@[simp] theorem counterRegs_acceptSnapshot (s : State) : counterRegs (acceptSnapshot s) = counterRegs s := rfl
@[simp] theorem counterRegs_recordTick (s : State) : counterRegs (recordTick s) = counterRegs s := rfl

@[simp] theorem counterRegs_sendCoarse (k1 : Byte) (s : State) : counterRegs (sendCoarse k1 s) = counterRegs s := by
  obtain ⟨h, -⟩ | ⟨h, -⟩ := sendCoarse_cases k1 s <;> rw [h]
  exact counterRegs_sendWiper ..

@[simp] theorem counterRegs_tuneFrames (m : TuneMove) (s : State) : counterRegs (tuneFrames m s) = counterRegs s := by
  unfold tuneFrames
  split <;> simp

/-- The shared micro-steps S0 to S4 read the counter and do not write it. -/
theorem counterRegs_snapshotStep {c : Word} {finish : State → State} {s : State}
    (hfinish : counterRegs (finish s) = counterRegs s) :
    counterRegs (snapshotStep c finish s) = counterRegs s := by
  cases h : phaseOf s.seq with
  | s0 => rw [snapshotStep_s0 h]; rfl
  | s1 => rw [snapshotStep_s1 h]; rfl
  | s2 => rw [snapshotStep_s2 h]; rfl
  | s3 => rw [snapshotStep_s3 h]; rfl
  | s4 => rw [snapshotStep_s4 h]; rfl
  | s5 => rw [snapshotStep_s5 h, hfinish]

variable {s t : State}

/-- What a check can answer: the command's rule, or its error. -/
theorem checked_eq_next {legal : Bool} {code : CmdError} {s' : State} (h : checked legal code s s' = .next t) :
    (legal = true ∧ t = s') ∨ (legal = false ∧ t = raiseErr code s) := by
  cases legal with
  | true => exact .inl ⟨rfl, (Host.Outcome.next.inj h).symm⟩
  | false => exact .inr ⟨rfl, (Host.Outcome.next.inj h).symm⟩

theorem counterRegs_of_checked {legal : Bool} {code : CmdError} {s' : State} (h : checked legal code s s' = .next t)
    (hs' : counterRegs s' = counterRegs s) : counterRegs t = counterRegs s := by
  obtain ⟨-, rfl⟩ | ⟨-, rfl⟩ := checked_eq_next h
  · exact hs'
  · exact counterRegs_raiseErr ..

/-- No micro-step of a command writes a counter register. -/
theorem counterRegs_of_exec {i : Instr} (h : exec i s = .next t) : counterRegs t = counterRegs s := by
  cases i with
  | snap =>
    cases h
    exact counterRegs_snapshotStep (by simp)
  | etick =>
    cases h
    exact counterRegs_snapshotStep (by simp)
  | eqry =>
    cases h
    rfl
  | pset ch w => exact counterRegs_of_checked h (by simp)
  | psetr ch r => exact counterRegs_of_checked h (by simp)
  | pr2w ch r => exact counterRegs_of_checked h (by simp)
  | pw2r ch w => exact counterRegs_of_checked h (by simp)
  | tune =>
    simp only [exec, execTune] at h
    split at h <;> cases h <;> simp
  | stgt v => exact counterRegs_of_checked h rfl
  | rdreg idx =>
    simp only [exec, execRdreg] at h
    split at h <;> cases h <;> simp

/-- No micro-step of SEQ writes a counter register. -/
theorem counterRegs_of_seqStep (h : seqStep s = .next t) : counterRegs t = counterRegs s := by
  obtain ⟨-, hs⟩ | ⟨c, k, code, -, -, hs⟩ | ⟨c, k, i, -, -, hs⟩ := seqStep_cases s <;> rw [hs] at h
  · cases h
    rfl
  · cases h
    exact counterRegs_raiseErr ..
  · exact counterRegs_of_exec h

/-! ## When the counter's agents are enabled -/

theorem enabled_pulseIn_iff {e : Edge} : enabled (.pulseIn e) s = true ↔ s.rstN = true ∧ e = s.params.edge := by
  simp [enabled]

/-- PULSE outside reset (10_state.md R20). -/
theorem react_pulse (h : s.rstN = true) : react (.pulseIn s.params.edge) s = .next (pulse s) :=
  react_fire (enabled_pulseIn_iff.mpr ⟨h, rfl⟩) nofun

theorem enabled_service_iff : enabled .service s = true ↔ s.rstN = true ∧ s.ovf = true ∧ s.toie = true := by
  simp [enabled, serviceEnabled]

/-! ## The extended count (10_state.md R32) -/

theorem extCount_congr (h : counterRegs t = counterRegs s) : extCount t = extCount s := by
  obtain ⟨htcnt, hext, hovf, -⟩ := counterRegs_eq_iff.mp h
  simp [extCount, htcnt, hext, hovf]

theorem extCount_toNat (s : State) :
    (extCount s).toNat = (256 * s.ext.toNat + 256 * s.ovf.toNat + s.tcnt.toNat) % 2 ^ 16 :=
  BitVec.toNat_ofNat ..

/-- SERVICE moves the 256 of the pending overflow from OVF to EXT. -/
theorem extCount_service (h : s.ovf = true) : extCount (service s) = extCount s := by
  have hext : (service s).ext.toNat = (s.ext.toNat + 1) % 256 := BitVec.toNat_add ..
  apply BitVec.eq_of_toNat_eq
  simp only [extCount_toNat, hext, service_ovf, service_tcnt, h, Bool.toNat_true, Bool.toNat_false]
  omega

theorem extCount_pulse_of_not_wrap (h : s.tcnt ≠ 0xFF) : extCount (pulse s) = extCount s + 1 := by
  have htcnt : (pulse s).tcnt.toNat = s.tcnt.toNat + 1 := by
    rw [pulse_tcnt]
    bv_omega
  have hovf : (pulse s).ovf = s.ovf := by simp only [pulse_ovf, decide_eq_false h, Bool.or_false]
  apply BitVec.eq_of_toNat_eq
  simp only [BitVec.toNat_add, extCount_toNat, pulse_ext, htcnt, hovf, BitVec.ofNat_eq_ofNat, BitVec.toNat_ofNat]
  omega

/-- A wrap puts 256 into OVF where TCNT loses 255. -/
theorem extCount_pulse_of_wrap (h : s.tcnt = 0xFF) (hovf : s.ovf = false) : extCount (pulse s) = extCount s + 1 := by
  apply BitVec.eq_of_toNat_eq
  simp [extCount_toNat, pulse_tcnt, pulse_ovf, h, hovf]

/-- A wrap while OVF is 1 loses the 256 it would have put there. -/
theorem extCount_pulse_of_lost (h : s.tcnt = 0xFF) (hovf : s.ovf = true) :
    extCount (pulse s) = extCount s + 1 - 256 := by
  have htcnt : (pulse s).tcnt = 0 := by rw [pulse_tcnt, h]; rfl
  have hovf' : (pulse s).ovf = true := by rw [pulse_ovf, hovf, Bool.true_or]
  apply BitVec.eq_of_toNat_eq
  simp only [BitVec.toNat_sub, BitVec.toNat_add, extCount_toNat, pulse_ext, htcnt, hovf', h, hovf,
    Bool.toNat_true, BitVec.ofNat_eq_ofNat, BitVec.toNat_ofNat]
  omega

/-- PULSE on the extended count, in all its cases. -/
theorem extCount_pulse (s : State) :
    extCount (pulse s) = if s.tcnt = 0xFF ∧ s.ovf = true then extCount s + 1 - 256 else extCount s + 1 := by
  split
  case isTrue h => exact extCount_pulse_of_lost h.1 h.2
  case isFalse h =>
    by_cases hwrap : s.tcnt = 0xFF
    · exact extCount_pulse_of_wrap hwrap (by simpa [hwrap] using h)
    · exact extCount_pulse_of_not_wrap hwrap

/-- PULSE and the assertion of reset excepted, the effect of an agent other than SEQ or of an input keeps X. -/
theorem extCount_fire {ev : Event} (hen : enabled ev s = true)
    (hpulse : ¬ (ev = .pulseIn s.params.edge ∧ s.rstN = true)) (hrst : ev ≠ .rst false) :
    extCount (fire ev s) = extCount s := by
  cases ev with
  | pulseIn e =>
    obtain ⟨hrun, rfl⟩ := enabled_pulseIn_iff.mp hen
    exact absurd ⟨rfl, hrun⟩ hpulse
  | service =>
    obtain ⟨-, hovf, -⟩ := enabled_service_iff.mp hen
    exact extCount_service hovf
  | accept =>
    simp only [fire, acceptCmd]
    split <;> rfl
  | rst level =>
    cases level with
    | false => exact absurd rfl hrst
    | true => rfl
  | seq | host | device => rfl

end Sys2Proof.Machine

namespace Sys2Proof.Proofs

open Sys2Proof.Machine Sys2Proof.Claims

/-- Settles O12: PULSE moves X as `extCount_pulse` says; of the other events, a disabled one does nothing, a micro-step
of SEQ writes no counter register, and the effect of another agent or input keeps X. -/
theorem extendedCountMovesOnlyByPulse : Obligations.ExtendedCountMovesOnlyByPulse := by
  intro ev s t h hrst
  by_cases hpulse : ev = pulseEvent s.params ∧ s.rstN = true
  · rw [if_pos hpulse]
    obtain ⟨rfl, hrun⟩ := hpulse
    obtain rfl : pulse s = t := Host.Outcome.next.inj ((react_pulse hrun).symm.trans h)
    exact extCount_pulse s
  · rw [if_neg hpulse]
    obtain ⟨-, hreact⟩ | ⟨-, -, hreact⟩ | ⟨-, hen, hreact⟩ := react_cases ev s <;> rw [hreact] at h
    · cases h
      rfl
    · exact extCount_congr (counterRegs_of_seqStep h)
    · cases h
      exact extCount_fire hen hpulse hrst

end Sys2Proof.Proofs
end

section
/-!
PROOF. The lines of a frame: the bits of its two bytes in time order (20_memory.md R62) and its chip-select
(10_state.md R22).
-/
namespace Sys2Proof.Machine

/-! ## The bits of a frame (20_memory.md R62) -/

/-- The low half of a frame's word is its data byte. -/
theorem frameWord_getLsbD_low (f : Frame) {k : Nat} (hk : k < 8) : (frameWord f).getLsbD k = f.b1.getLsbD k := by
  rw [frameWord, BitVec.getLsbD_append, if_pos hk]

/-- The high half of a frame's word is its command byte. -/
theorem frameWord_getLsbD_high (f : Frame) (k : Nat) : (frameWord f).getLsbD (8 + k) = f.b0.getLsbD k := by
  rw [frameWord, BitVec.getLsbD_append, if_neg (by omega), Nat.add_sub_cancel_left]

/-- A byte's bits, most significant first. -/
def byteBits (b : Byte) : List Bool := (List.range 8).map fun n => b.getLsbD (7 - n)

/-- The bits of a frame are those of its command byte, then those of its data byte. -/
theorem frameBits_eq_append (f : Frame) : frameBits f = byteBits f.b0 ++ byteBits f.b1 := by
  have hsplit : List.range 16 = List.range 8 ++ (List.range 8).map (8 + ·) := rfl
  have hcommand : ∀ n ∈ List.range 8, (frameWord f).getLsbD (15 - n) = f.b0.getLsbD (7 - n) := by
    intro n hn
    have hbit : 15 - n = 8 + (7 - n) := by have := List.mem_range.mp hn; omega
    rw [hbit, frameWord_getLsbD_high]
  have hdata : ∀ n ∈ List.range 8, (frameWord f).getLsbD (15 - (8 + n)) = f.b1.getLsbD (7 - n) := by
    intro n _
    have hbit : 15 - (8 + n) = 7 - n := by omega
    rw [hbit, frameWord_getLsbD_low f (by omega)]
  rw [frameBits, hsplit, List.map_append, List.map_map]
  exact congrArg₂ _ (List.map_congr_left hcommand) (List.map_congr_left hdata)

/-! ## The chip-selects (10_state.md R22) -/

/-- During a frame on `ch`, of the three lines exactly the one numbered `ch` is low. -/
theorem csDuring_getLsbD_eq_false_iff (ch : Channel) {n : Nat} (hn : n < 3) :
    (csDuring ch).getLsbD n = false ↔ n = Claims.chNum ch := by
  cases ch <;> interval_cases n <;> decide

end Sys2Proof.Machine

namespace Sys2Proof.Proofs

open Sys2Proof.Machine

/-- Settles O35: the bits of a frame are its two bytes' (`frameBits_eq_append`), its chip-select is the channel's, and
`sendWiper` appends the frame and writes the device. -/
theorem frameOnTheSerialPort : Obligations.FrameOnTheSerialPort := by
  refine ⟨fun f => ?_, fun ch n hn => csDuring_getLsbD_eq_false_iff ch hn, fun ch w s => ⟨?_, ?_⟩⟩
  · rw [frameLines, frameBits_eq_append]
    rfl
  · exact sendWiper_frames ch w s
  · rw [sendWiper_dev, chGet_chSet_same]

end Sys2Proof.Proofs
end

section
/-!
PROOF. The decoder as a relation between words and commands (30_encoding.md R88): it inverts the encoder, and its checks
are made in R86's order; with them, the operand's range on the word's fields (R82, R86 item 4).
-/
namespace Sys2Proof

open Sys2Proof.Claims

/-! ## The fields as bit vectors and as numbers (30_encoding.md R80) -/

section Fields

variable {c : Word}

theorem opField_eq_ofNat {n : Nat} (h : opOf c = n) : opField c = BitVec.ofNat 4 n := by
  rw [← h, opOf, ← opField_toNat, BitVec.ofNat_toNat, BitVec.setWidth_eq]

theorem chField_eq_zero_iff : chField c = 0 ↔ chOf c = 0 := by
  rw [chOf, ← chField_toNat, ← BitVec.toNat_inj]
  rfl

theorem chField_eq_three_iff : chField c = 3 ↔ chOf c = 3 := by
  rw [chOf, ← chField_toNat, ← BitVec.toNat_inj]
  rfl

theorem rsvField_eq_zero_iff : rsvField c = 0 ↔ rsvOf c = 0 := by
  rw [rsvOf, ← rsvField_toNat, ← BitVec.toNat_inj]
  rfl

theorem immField_eq_zero_iff : immField c = 0 ↔ immOf c = 0 := by
  rw [immOf, ← immField_toNat, ← BitVec.toNat_inj]
  rfl

end Fields

section PackedFields

variable (op : BitVec 4) (ch : BitVec 2) (imm : Imm)

@[simp] theorem opOf_packWord : opOf (packWord op ch imm) = op.toNat := by
  rw [opOf, ← opField_toNat, opField_packWord]

@[simp] theorem chOf_packWord : chOf (packWord op ch imm) = ch.toNat := by
  rw [chOf, ← chField_toNat, chField_packWord]

@[simp] theorem immOf_packWord : immOf (packWord op ch imm) = imm.toNat := by
  rw [immOf, ← immField_toNat, immField_packWord]

end PackedFields

@[simp] theorem channelCode_toNat (ch : Channel) : (channelCode ch).toNat = chNum ch := by
  cases ch <;> rfl

@[simp] theorem chNum_inj {ch ch' : Channel} : chNum ch = chNum ch' ↔ ch = ch' := by
  cases ch <;> cases ch' <;> decide

/-! ## The opcode map, by format (30_encoding.md R81, R83) -/

section Formats

variable {c : Word}

/-- Every OP is illegal or belongs to one of the three formats. -/
theorem opOf_cases (c : Word) :
    (opOf c = 0 ∨ 0xB ≤ opOf c) ∨ formatN (opOf c) ∨ formatC (opOf c) ∨ formatI (opOf c) := by
  simp only [formatN, formatC, formatI]
  omega

theorem decode_of_illegal_op (h : opOf c = 0 ∨ 0xB ≤ opOf c) : decode c = .error .illegalOpcode := by
  rw [opOf, ← opField_toNat] at h
  unfold decode
  split
  case h_11 => rfl
  all_goals omega

theorem decode_of_formatN (h : formatN (opOf c)) :
    ∃ i, encode i = packWord (opField c) 0 0 ∧ decode c = decodeN c i := by
  obtain h | h | h | h := h <;> simp only [decode, opField_eq_ofNat h]
  · exact ⟨.snap, rfl, rfl⟩
  · exact ⟨.etick, rfl, rfl⟩
  · exact ⟨.eqry, rfl, rfl⟩
  · exact ⟨.tune, rfl, rfl⟩

theorem decode_of_formatC (h : formatC (opOf c)) :
    ∃ mk : Channel → Imm → Instr,
      (∀ ch v, encode (mk ch v) = packWord (opField c) (channelCode ch) v) ∧ decode c = decodeC c mk := by
  have hop : opOf c = 4 ∨ opOf c = 5 ∨ opOf c = 6 ∨ opOf c = 7 := by
    obtain ⟨hlow, hhigh⟩ := h
    omega
  obtain h | h | h | h := hop <;> simp only [decode, opField_eq_ofNat h]
  · exact ⟨.pset, fun _ _ => rfl, rfl⟩
  · exact ⟨.psetr, fun _ _ => rfl, rfl⟩
  · exact ⟨.pr2w, fun _ _ => rfl, rfl⟩
  · exact ⟨.pw2r, fun _ _ => rfl, rfl⟩

theorem decode_of_formatI (h : formatI (opOf c)) :
    ∃ mk : Imm → Instr, (∀ v, encode (mk v) = packWord (opField c) 0 v) ∧ decode c = decodeI c mk := by
  obtain h | h := h <;> simp only [decode, opField_eq_ofNat h]
  · exact ⟨.stgt, fun _ => rfl, rfl⟩
  · exact ⟨.rdreg, fun _ => rfl, rfl⟩

end Formats

/-! ## The decoder inverts the encoder (30_encoding.md R88) -/

theorem decodeN_packWord (op : BitVec 4) (i : Instr) : decodeN (packWord op 0 0) i = .ok i := by
  simp [decodeN_eq_ok]

theorem decodeC_packWord (op : BitVec 4) (ch : Channel) (v : Imm) (mk : Channel → Imm → Instr) :
    decodeC (packWord op (channelCode ch) v) mk = .ok (mk ch v) := by
  simp [decodeC_eq_ok]

theorem decodeI_packWord (op : BitVec 4) (v : Imm) (mk : Imm → Instr) :
    decodeI (packWord op 0 v) mk = .ok (mk v) := by
  simp [decodeI_eq_ok]

/-- The decoder reads back every command. -/
theorem decode_encode (i : Instr) : decode (encode i) = .ok i := by
  cases i <;> simp only [decode, encode, opField_packWord]
  case snap | etick | eqry | tune => exact decodeN_packWord ..
  case pset | psetr | pr2w | pw2r => exact decodeC_packWord ..
  case stgt | rdreg => exact decodeI_packWord ..

/-- A word that decodes is the encoding of its command: no field of it was ignored. -/
theorem encode_of_decode_eq_ok {c : Word} {i : Instr} (h : decode c = .ok i) : encode i = c := by
  obtain hop | hop | hop | hop := opOf_cases c
  · rw [decode_of_illegal_op hop] at h
    cases h
  · obtain ⟨j, henc, hdec⟩ := decode_of_formatN hop
    obtain ⟨⟨hrsv, hch, himm⟩, rfl⟩ := decodeN_eq_ok.mp (hdec ▸ h)
    rw [henc, ← hch, ← himm, packWord_fields hrsv]
  · obtain ⟨mk, henc, hdec⟩ := decode_of_formatC hop
    obtain ⟨hrsv, ch, hch, rfl⟩ := decodeC_eq_ok.mp (hdec ▸ h)
    rw [henc, channelOf_eq_some hch, packWord_fields hrsv]
  · obtain ⟨mk, henc, hdec⟩ := decode_of_formatI hop
    obtain ⟨⟨hrsv, hch⟩, rfl⟩ := decodeI_eq_ok.mp (hdec ▸ h)
    rw [henc, ← hch, packWord_fields hrsv]

/-! ## The checks of the decoder (30_encoding.md R86 items 2 and 3) -/

/-- A field that the word's format reserves is not zero (R81). -/
abbrev reservedSet (c : Word) : Prop :=
  rsvOf c ≠ 0 ∨ (formatN (opOf c) ∧ (chOf c ≠ 0 ∨ immOf c ≠ 0)) ∨ (formatI (opOf c) ∧ chOf c ≠ 0)

section Checks

variable {c : Word}

theorem reservedSet_iff_of_formatN (h : formatN (opOf c)) :
    reservedSet c ↔ rsvOf c ≠ 0 ∨ chOf c ≠ 0 ∨ immOf c ≠ 0 := by
  simp only [reservedSet, formatI]
  omega

theorem reservedSet_iff_of_formatC (h : formatC (opOf c)) : reservedSet c ↔ rsvOf c ≠ 0 := by
  simp only [reservedSet, formatN, formatI]
  omega

theorem rsvField_of_formatC (hop : formatC (opOf c)) (h : ¬ reservedSet c) : rsvField c = 0 :=
  rsvField_eq_zero_iff.mpr (not_not.mp (mt (reservedSet_iff_of_formatC hop).mpr h))

theorem reservedSet_iff_of_formatI (h : formatI (opOf c)) : reservedSet c ↔ rsvOf c ≠ 0 ∨ chOf c ≠ 0 := by
  simp only [reservedSet, formatN]
  omega

theorem decodeN_eq_ite (c : Word) (i : Instr) :
    decodeN c i = if rsvOf c ≠ 0 ∨ chOf c ≠ 0 ∨ immOf c ≠ 0 then .error .reservedNonzero else .ok i := by
  simp only [decodeN, ne_eq, rsvField_eq_zero_iff, chField_eq_zero_iff, immField_eq_zero_iff]

theorem decodeI_eq_ite (c : Word) (mk : Imm → Instr) :
    decodeI c mk = if rsvOf c ≠ 0 ∨ chOf c ≠ 0 then .error .reservedNonzero else .ok (mk (immField c)) := by
  simp only [decodeI, ne_eq, rsvField_eq_zero_iff, chField_eq_zero_iff]

theorem decodeC_of_rsvOf (h : rsvOf c ≠ 0) (mk : Channel → Imm → Instr) :
    decodeC c mk = .error .reservedNonzero := by
  rw [decodeC, if_pos (mt rsvField_eq_zero_iff.mp h)]

theorem decode_of_reservedSet (hlow : 1 ≤ opOf c) (hhigh : opOf c ≤ 0xA) (h : reservedSet c) :
    decode c = .error .reservedNonzero := by
  obtain hop | hop | hop | hop := opOf_cases c
  · omega
  · obtain ⟨i, -, hdec⟩ := decode_of_formatN hop
    rw [hdec, decodeN_eq_ite, if_pos ((reservedSet_iff_of_formatN hop).mp h)]
  · obtain ⟨mk, -, hdec⟩ := decode_of_formatC hop
    rw [hdec, decodeC_of_rsvOf ((reservedSet_iff_of_formatC hop).mp h)]
  · obtain ⟨mk, -, hdec⟩ := decode_of_formatI hop
    rw [hdec, decodeI_eq_ite, if_pos ((reservedSet_iff_of_formatI hop).mp h)]

theorem decode_of_chOf_three (hop : formatC (opOf c)) (hrsv : ¬ reservedSet c) (hch : chOf c = 3) :
    decode c = .error .channelInvalid := by
  obtain ⟨mk, -, hdec⟩ := decode_of_formatC hop
  rw [hdec, decodeC, if_neg (not_not.mpr (rsvField_of_formatC hop hrsv)),
    channelOf_eq_none.mpr (chField_eq_three_iff.mpr hch)]

/-- A word that passes the decoder's checks is a command. -/
theorem exists_decode_eq_ok (hop : ¬ (opOf c = 0 ∨ 0xB ≤ opOf c)) (hrsv : ¬ reservedSet c)
    (hch : ¬ (formatC (opOf c) ∧ chOf c = 3)) : ∃ i, decode c = .ok i := by
  obtain h | h | h | h := opOf_cases c
  · exact absurd h hop
  · obtain ⟨i, -, hdec⟩ := decode_of_formatN h
    exact ⟨i, by rw [hdec, decodeN_eq_ite, if_neg (mt (reservedSet_iff_of_formatN h).mpr hrsv)]⟩
  · obtain ⟨mk, -, hdec⟩ := decode_of_formatC h
    have hthree : channelOf (chField c) ≠ none :=
      fun hnone => hch ⟨h, chField_eq_three_iff.mp (channelOf_eq_none.mp hnone)⟩
    obtain ⟨ch, hsome⟩ := Option.ne_none_iff_exists'.mp hthree
    exact ⟨mk ch (immField c), hdec.trans (decodeC_eq_ok.mpr ⟨rsvField_of_formatC h hrsv, ch, hsome, rfl⟩)⟩
  · obtain ⟨mk, -, hdec⟩ := decode_of_formatI h
    exact ⟨mk (immField c), by rw [hdec, decodeI_eq_ite, if_neg (mt (reservedSet_iff_of_formatI h).mpr hrsv)]⟩

end Checks

end Sys2Proof

namespace Sys2Proof.Machine

open Sys2Proof.Claims

/-! ## The check of the operand's range (30_encoding.md R82, R86 item 4) -/

/-- On the word of a command, item 4 of R86 is that the operand is not in its legal range. -/
theorem outOfRange_encode {p : Params} (i : Instr) : outOfRange p (encode i) ↔ i.wellFormed p = false := by
  rw [← Bool.not_eq_true]
  cases i <;> simp only [outOfRange, encode, opOf_packWord, chOf_packWord, immOf_packWord, channelCode_toNat, chNum_inj]
  case snap | etick | eqry | tune => simp [Instr.wellFormed]
  case pset | pw2r => simp [Instr.wellFormed, wiperLegal_iff]
  case psetr | pr2w => simp [Instr.wellFormed, resistanceLegal_iff]
  case stgt => simp [Instr.wellFormed, targetLegal_iff]; omega
  case rdreg => simp [Instr.wellFormed, regAt_isSome]

/-- A command whose operand is out of range ends in OPERAND_RANGE, with no other effect. -/
theorem exec_of_not_wellFormed {i : Instr} {s : State} (h : i.wellFormed s.params = false) :
    exec i s = .next (raiseErr .operandRange s) := by
  cases i with
  | snap | etick | eqry | tune => cases h
  | pset | psetr | pr2w | pw2r | stgt => exact checked_of_illegal h
  | rdreg idx =>
    have hnone : regAt s.params idx = none := Option.not_isSome_iff_eq_none.mp (Bool.eq_false_iff.mp h)
    simp only [exec, execRdreg, hnone]

/-- SEQ outside reset, with a command in progress, takes a micro-step. -/
theorem react_seq_busy {s : State} {c : Word} {k : Phase} (hrun : s.rstN = true) (hseq : s.seq = .busy c k) :
    react .seq s = seqStep s :=
  react_seq (by simp [enabled, hrun, hseq])

end Sys2Proof.Machine

namespace Sys2Proof.Proofs

open Sys2Proof.Machine Sys2Proof.Claims

/-- Settles O2: decoder and encoder are inverse to each other (`decode_encode`, `encode_of_decode_eq_ok`), so a word that
decodes has one command and a word that does not has none; the reserved fields are `decode_of_reservedSet`. -/
theorem everyWordIsOneCommandOrOneError : Obligations.EveryWordIsOneCommandOrOneError := by
  refine ⟨fun c => ?_, fun c hlow hhigh h => decode_of_reservedSet hlow hhigh h⟩
  have hinv {j : Instr} (h : encode j = c) : decode c = .ok j := h ▸ decode_encode j
  cases hd : decode c with
  | ok i => exact .inl ⟨i, rfl, encode_of_decode_eq_ok hd, fun j hj => Except.ok.inj ((hinv hj).symm.trans hd)⟩
  | error code => exact .inr ⟨code, rfl, fun j hj => nomatch (hinv hj).symm.trans hd⟩

/-- Settles O3: items 1 to 3 of R86 are the decoder's, in that order; a word that passes them is the encoding of its
command, whose operand is out of range exactly when the word's is. -/
theorem firstFailingCheckEndsTheCommand : Obligations.FirstFailingCheckEndsTheCommand := by
  intro s c hrun hseq
  rw [react_seq_busy hrun hseq]
  have failed {code : CmdError} (hd : decode c = .error code) : seqStep s = .next (errored code s) :=
    seqStep_error hseq hd
  split_ifs with hop hrsv hch
  · exact failed (decode_of_illegal_op hop)
  · exact failed (decode_of_reservedSet (by omega) (by omega) hrsv)
  · exact failed (decode_of_chOf_three hch.1 hrsv hch.2)
  · obtain ⟨i, hd⟩ := exists_decode_eq_ok hop hrsv hch
    have hrange : outOfRange s.params c ↔ i.wellFormed s.params = false :=
      encode_of_decode_eq_ok hd ▸ outOfRange_encode i
    rw [seqStep_ok hseq hd, hrange, Bool.not_eq_false]
    exact ⟨exec_of_not_wellFormed, fun hwf => ⟨i, hd, hwf, rfl⟩⟩

end Sys2Proof.Proofs
end

section
/-!
PROOF. The timer counter's events as equations (40_timer_counter.md R100, R102), the words of a format N command
(30_encoding.md R81), and the micro-steps of SNAP (40_timer_counter.md R104).
-/
namespace Sys2Proof.Machine

open Sys2Proof.Claims

variable {s : State}

/-! ## PULSE and SERVICE -/

theorem pulse_of_wrap (h : s.tcnt = 0xFF) :
    pulse s = { s with tcnt := 0x00, ovf := true, lostOvf := s.lostOvf || s.ovf } := by
  rw [pulse, if_pos h]

theorem pulse_of_not_wrap (h : s.tcnt ≠ 0xFF) : pulse s = { s with tcnt := s.tcnt + 1 } := by
  rw [pulse, if_neg h]

theorem react_service (hrun : s.rstN = true) (hovf : s.ovf = true) (htoie : s.toie = true) :
    react .service s = .next (service s) :=
  react_fire (enabled_service_iff.mpr ⟨hrun, hovf, htoie⟩) nofun

/-! ## The words of a format N command -/

/-- A word whose reserved field is zero is the word of its fields. -/
theorem word_fields {c : Word} (h : rsvOf c = 0) : word (opOf c) (chOf c) (immOf c) = c := by
  apply BitVec.eq_of_toNat_eq
  simp only [word, BitVec.toNat_ofNat, opOf, chOf, immOf, rsvOf] at h ⊢
  omega

/-- A format N command has one legal word: in any other with its OP a field that the format reserves is set. -/
theorem formatNWords_of_encode {op : Nat} {i : Instr} (hop : formatN op) (henc : encode i = word op 0 0) :
    FormatNWords op i := by
  refine ⟨henc ▸ decode_encode i, fun c hc hne => ?_⟩
  subst hc
  refine decode_of_reservedSet (by omega) (by omega) ((reservedSet_iff_of_formatN hop).mpr ?_)
  by_contra hclear
  obtain ⟨hrsv, hch, himm⟩ : rsvOf c = 0 ∧ chOf c = 0 ∧ immOf c = 0 := by simpa using hclear
  have hword : word (opOf c) 0 0 = c := by
    have := word_fields hrsv
    rwa [hch, himm] at this
  exact hne hword.symm

/-! ## The phase of a command in progress -/

theorem phaseOf_busy {c : Word} {k : Phase} (h : s.seq = .busy c k) : phaseOf s.seq = k := by
  rw [h, phaseOf]

/-! ## The value of a snapshot (20_memory.md R61) -/

theorem snapshotValue_toNat (s : State) : (snapshotValue s).toNat = latchNum s := by
  have := s.l1.isLt
  rw [snapshotValue, BitVec.toNat_append, Nat.shiftLeft_eq, latchNum, Nat.mul_comm,
    ← Nat.two_pow_add_eq_or_of_lt s.l1.isLt]

theorem snapshotValue_eq_ofNat (s : State) : snapshotValue s = BitVec.ofNat 16 (latchNum s) := by
  rw [← snapshotValue_toNat, BitVec.ofNat_toNat, BitVec.setWidth_eq]

theorem setWidth_snapshotValue (s : State) : (snapshotValue s).setWidth 32 = BitVec.ofNat 32 (latchNum s) := by
  rw [← snapshotValue_toNat, BitVec.ofNat_toNat]

end Sys2Proof.Machine

namespace Sys2Proof.Proofs

open Sys2Proof.Machine Sys2Proof.Claims

/-- Settles O10: the two branches of PULSE. -/
theorem pulseCountsAndMarksTheWrap : Obligations.PulseCountsAndMarksTheWrap := by
  intro s hrun
  rw [pulseEvent, react_pulse hrun]
  refine ⟨fun hwrap => ?_, fun hwrap => ?_⟩
  · rw [pulse_of_wrap hwrap]
    cases s.ovf <;> simp
  · rw [pulse_of_not_wrap hwrap, BitVec.ofNat_add, BitVec.ofNat_toNat, BitVec.setWidth_eq]
    rfl

/-- Settles O11: the enabling condition is `enabled_service_iff`, the effect that of `service`. -/
theorem serviceExtendsTheCounter : Obligations.ServiceExtendsTheCounter := by
  intro s hrun
  refine ⟨enabled_service_iff.trans (and_iff_right hrun), fun ⟨hovf, htoie⟩ => ?_⟩
  have hext : s.ext + 1 = BitVec.ofNat 8 ((s.ext.toNat + 1) % 256) := by
    apply BitVec.eq_of_toNat_eq
    simp [BitVec.toNat_add]
  rw [react_service hrun hovf htoie, service, hext]

/-- Settles O15: SNAP's one word is `formatNWords_of_encode`; each micro-step is that phase of `snapshotStep`, with the
value {E, L1} of S5 read as a number. -/
theorem snapMicroSteps : Obligations.SnapMicroSteps := by
  refine ⟨formatNWords_of_encode (.inl rfl) rfl, fun s => ?_⟩
  refine ⟨fun h => ?_, fun h => ?_, fun h => ?_, fun h => ?_, fun h hne => ?_, fun h heq => ?_, fun h => ?_⟩
  all_goals rw [exec, execSnap]
  · rw [snapshotStep_s0 (phaseOf_busy h)]; rfl
  · rw [snapshotStep_s1 (phaseOf_busy h)]; rfl
  · rw [snapshotStep_s2 (phaseOf_busy h)]; rfl
  · rw [snapshotStep_s3 (phaseOf_busy h)]; rfl
  · rw [snapshotStep_s4 (phaseOf_busy h), if_pos hne]; rfl
  · rw [snapshotStep_s4 (phaseOf_busy h), if_neg (not_not.mpr heq)]; rfl
  · rw [snapshotStep_s5 (phaseOf_busy h), setWidth_snapshotValue, acceptSnapshot, snapshotValue_eq_ofNat]; rfl

end Sys2Proof.Proofs
end

section
/-!
PROOF. TOIE and the critical section of a snapshot (40_timer_counter.md R105): the micro-steps of SNAP and ETICK as
reactions to SEQ's event, every writer of TOIE, and the invariant that ties TOIE to SEQ.
-/
namespace Sys2Proof.Machine

open Sys2Proof.Claims Sys2Proof.Safety

/-! ## The micro-steps that SNAP and ETICK share -/

/-- The words of SNAP and ETICK are those that decode to them. -/
theorem snapshotting_iff {c : Word} : snapshotting c ↔ decode c = .ok .snap ∨ decode c = .ok .etick := by
  constructor
  · rintro (rfl | rfl)
    · exact .inl (decode_encode .snap)
    · exact .inr (decode_encode .etick)
  · rintro (h | h)
    · exact .inl (encode_of_decode_eq_ok h).symm
    · exact .inr (encode_of_decode_eq_ok h).symm

/-- `t` is `s` after S5 of a SNAP or ETICK, as far as the two agree (R104, R131). -/
structure SnapshotAccepted (s t : State) : Prop where
  seq     : t.seq = .idle
  toie    : t.toie = true
  snap    : t.snap = snapshotValue s
  counter : counterRegs t = counterRegs s

section MicroSteps

variable {s : State} {c : Word} {k : Phase}

/-- A micro-step of a snapshotting command is `snapshotStep` with some end that accepts the snapshot. -/
theorem seqStep_snapshotting (hc : snapshotting c) (hseq : s.seq = .busy c k) :
    ∃ finish, seqStep s = .next (snapshotStep c finish s) ∧ SnapshotAccepted s (finish s) := by
  obtain hd | hd := snapshotting_iff.mp hc <;> rw [seqStep_ok hseq hd, ← encode_of_decode_eq_ok hd]
  · exact ⟨_, rfl, rfl, rfl, rfl, rfl⟩
  · exact ⟨_, rfl, rfl, rfl, rfl, rfl⟩

theorem seqStep_s0 (hc : snapshotting c) (hseq : s.seq = .busy c .s0) :
    seqStep s = .next { s with toie := false, seq := .busy c .s1 } := by
  obtain ⟨finish, hstep, -⟩ := seqStep_snapshotting hc hseq
  rw [hstep, snapshotStep_s0 (phaseOf_busy hseq)]

theorem seqStep_s1 (hc : snapshotting c) (hseq : s.seq = .busy c .s1) :
    seqStep s = .next { s with l1 := s.tcnt, seq := .busy c .s2 } := by
  obtain ⟨finish, hstep, -⟩ := seqStep_snapshotting hc hseq
  rw [hstep, snapshotStep_s1 (phaseOf_busy hseq)]

theorem seqStep_s2 (hc : snapshotting c) (hseq : s.seq = .busy c .s2) :
    seqStep s = .next { s with eLatch := s.ext, seq := .busy c .s3 } := by
  obtain ⟨finish, hstep, -⟩ := seqStep_snapshotting hc hseq
  rw [hstep, snapshotStep_s2 (phaseOf_busy hseq)]

theorem seqStep_s3 (hc : snapshotting c) (hseq : s.seq = .busy c .s3) :
    seqStep s = .next { s with l2 := s.tcnt, seq := .busy c .s4 } := by
  obtain ⟨finish, hstep, -⟩ := seqStep_snapshotting hc hseq
  rw [hstep, snapshotStep_s3 (phaseOf_busy hseq)]

theorem seqStep_s4 (hc : snapshotting c) (hseq : s.seq = .busy c .s4) :
    seqStep s = .next { s with seq := .busy c (if s.l1 ≠ s.l2 then .s1 else .s5) } := by
  obtain ⟨finish, hstep, -⟩ := seqStep_snapshotting hc hseq
  rw [hstep, snapshotStep_s4 (phaseOf_busy hseq)]

theorem seqStep_s5 (hc : snapshotting c) (hseq : s.seq = .busy c .s5) :
    ∃ t, seqStep s = .next t ∧ SnapshotAccepted s t := by
  obtain ⟨finish, hstep, haccepted⟩ := seqStep_snapshotting hc hseq
  exact ⟨finish s, by rw [hstep, snapshotStep_s5 (phaseOf_busy hseq)], haccepted⟩

end MicroSteps

/-! ## Every writer of TOIE and SEQ -/

@[simp] theorem sendCoarse_toie (k1 : Byte) (s : State) : (sendCoarse k1 s).toie = s.toie := by
  obtain ⟨h, -⟩ | ⟨h, -⟩ := sendCoarse_cases k1 s <;> rw [h]
  exact sendWiper_toie ..

@[simp] theorem tuneFrames_toie (m : TuneMove) (s : State) : (tuneFrames m s).toie = s.toie := by
  unfold tuneFrames
  split <;> simp

variable {s t : State} {c : Word} {k : Phase}

theorem idle_of_checked {legal : Bool} {code : CmdError} {s' : State} (h : checked legal code s s' = .next t)
    (hseq : s'.seq = .idle) (htoie : s'.toie = s.toie) : t.seq = .idle ∧ t.toie = s.toie := by
  obtain ⟨-, rfl⟩ | ⟨-, rfl⟩ := checked_eq_next h
  · exact ⟨hseq, htoie⟩
  · exact ⟨rfl, rfl⟩

/-- Every other command ends in its one micro-step and keeps TOIE. -/
theorem exec_of_not_snapshot {i : Instr} (hsnap : i ≠ .snap) (hetick : i ≠ .etick) (h : exec i s = .next t) :
    t.seq = .idle ∧ t.toie = s.toie := by
  cases i with
  | snap => exact absurd rfl hsnap
  | etick => exact absurd rfl hetick
  | eqry =>
    cases h
    exact ⟨rfl, rfl⟩
  | pset | psetr | pr2w | pw2r | stgt => exact idle_of_checked h rfl rfl
  | tune =>
    simp only [exec, execTune] at h
    split at h <;> cases h <;> simp
  | rdreg idx =>
    simp only [exec, execRdreg] at h
    split at h <;> cases h <;> exact ⟨rfl, rfl⟩

/-- A word of no snapshotting command, legal or not, ends in its one micro-step and keeps TOIE. -/
theorem seqStep_of_not_snapshotting (hc : ¬ snapshotting c) (hseq : s.seq = .busy c k) (h : seqStep s = .next t) :
    t.seq = .idle ∧ t.toie = s.toie := by
  cases hd : decode c with
  | error code =>
    rw [seqStep_error hseq hd] at h
    cases h
    exact ⟨rfl, rfl⟩
  | ok i =>
    rw [seqStep_ok hseq hd] at h
    refine exec_of_not_snapshot ?_ ?_ h <;> rintro rfl
    · exact hc (snapshotting_iff.mpr (.inl hd))
    · exact hc (snapshotting_iff.mpr (.inr hd))

/-- What a micro-step of a snapshotting command does to TOIE and SEQ: S0 enters the critical section, S5 leaves it, and
the others stay in it. -/
theorem seqStep_critical (hc : snapshotting c) (hseq : s.seq = .busy c k) (h : seqStep s = .next t) :
    (k = .s0 ∧ t.toie = false ∧ ∃ k', k' ≠ .s0 ∧ t.seq = .busy c k') ∨
    (k = .s5 ∧ t.toie = true ∧ t.seq = .idle) ∨
    (k ≠ .s0 ∧ t.toie = s.toie ∧ ∃ k', k' ≠ .s0 ∧ t.seq = .busy c k') := by
  cases k with
  | s0 =>
    cases (seqStep_s0 hc hseq).symm.trans h
    exact .inl ⟨rfl, rfl, .s1, nofun, rfl⟩
  | s1 =>
    cases (seqStep_s1 hc hseq).symm.trans h
    exact .inr (.inr ⟨nofun, rfl, .s2, nofun, rfl⟩)
  | s2 =>
    cases (seqStep_s2 hc hseq).symm.trans h
    exact .inr (.inr ⟨nofun, rfl, .s3, nofun, rfl⟩)
  | s3 =>
    cases (seqStep_s3 hc hseq).symm.trans h
    exact .inr (.inr ⟨nofun, rfl, .s4, nofun, rfl⟩)
  | s4 =>
    cases (seqStep_s4 hc hseq).symm.trans h
    exact .inr (.inr ⟨nofun, rfl, _, by split <;> nofun, rfl⟩)
  | s5 =>
    obtain ⟨u, hstep, haccepted⟩ := seqStep_s5 hc hseq
    cases hstep.symm.trans h
    exact .inr (.inl ⟨rfl, haccepted.toie, haccepted.seq⟩)

theorem enabled_accept_iff : enabled .accept s = true ↔ (s.rstN = true ∧ s.seq = .idle) ∧ s.cmdPort.isSome = true := by
  simp [enabled, cmdReady]

/-- No agent but SEQ writes TOIE, and of the inputs only reset. -/
theorem fire_toie {ev : Event} (hrst : ev ≠ .rst false) : (fire ev s).toie = s.toie := by
  cases ev with
  | pulseIn e => exact pulse_toie s
  | accept =>
    simp only [fire, acceptCmd]
    split <;> rfl
  | rst level =>
    cases level with
    | false => exact absurd rfl hrst
    | true => rfl
  | service | seq | host | device => rfl

/-- Acceptance and reset excepted, no other agent and no input moves SEQ. -/
theorem fire_seq {ev : Event} (haccept : ev ≠ .accept) (hrst : ev ≠ .rst false) : (fire ev s).seq = s.seq := by
  cases ev with
  | pulseIn e => exact pulse_seq s
  | accept => exact absurd rfl haccept
  | rst level =>
    cases level with
    | false => exact absurd rfl hrst
    | true => rfl
  | service | seq | host | device => rfl

/-! ## TOIE is 0 exactly between S0 and S5 -/

/-- TOIE as SEQ has it, and no command but SNAP and ETICK beyond its first micro-step: two clauses of `Inv` that every
event keeps together. -/
structure ToieFollowsSeq (s : State) : Prop where
  toie  : s.toie = !inCritical s.seq
  phase : phaseLegal s.seq

theorem inCritical_busy (hk : k ≠ .s0) : inCritical (.busy c k) = true := by
  cases k with
  | s0 => exact absurd rfl hk
  | s1 | s2 | s3 | s4 | s5 => rfl

theorem phaseLegal_busy (hk : k ≠ .s0) : phaseLegal (.busy c k) ↔ snapshotting c := by
  cases k with
  | s0 => exact absurd rfl hk
  | s1 | s2 | s3 | s4 | s5 => exact snapshotting_iff.symm

theorem phaseLegal_of_not_critical {q : Seq} (h : inCritical q = false) : phaseLegal q := by
  cases q with
  | idle => trivial
  | busy c k =>
    cases k with
    | s0 => trivial
    | s1 | s2 | s3 | s4 | s5 => cases h

theorem ToieFollowsSeq.of_not_critical (hseq : inCritical s.seq = false) (htoie : s.toie = true) : ToieFollowsSeq s :=
  ⟨by rw [htoie, hseq, Bool.not_false], phaseLegal_of_not_critical hseq⟩

theorem ToieFollowsSeq.of_critical (hc : snapshotting c) (hk : k ≠ .s0) (hseq : s.seq = .busy c k)
    (htoie : s.toie = false) : ToieFollowsSeq s :=
  ⟨by rw [hseq, htoie, inCritical_busy hk, Bool.not_true], by rwa [hseq, phaseLegal_busy hk]⟩

theorem ToieFollowsSeq.congr (h : ToieFollowsSeq s) (htoie : t.toie = s.toie) (hseq : t.seq = s.seq) :
    ToieFollowsSeq t :=
  ⟨by rw [htoie, hseq, h.toie], by rw [hseq]; exact h.phase⟩

theorem ToieFollowsSeq.toie_of_not_critical (h : ToieFollowsSeq s) (hseq : inCritical s.seq = false) : s.toie = true := by
  rw [h.toie, hseq, Bool.not_false]

theorem ToieFollowsSeq.toie_of_critical (h : ToieFollowsSeq s) (hk : k ≠ .s0) (hseq : s.seq = .busy c k) :
    s.toie = false := by
  rw [h.toie, hseq, inCritical_busy hk, Bool.not_true]

/-- A command that does not snapshot is at its first micro-step, where TOIE is 1. -/
theorem ToieFollowsSeq.toie_of_not_snapshotting (h : ToieFollowsSeq s) (hc : ¬ snapshotting c)
    (hseq : s.seq = .busy c k) : s.toie = true := by
  have hk : k = .s0 := by
    by_contra hk
    exact hc ((phaseLegal_busy hk).mp (hseq ▸ h.phase))
  exact h.toie_of_not_critical (by rw [hseq, hk]; rfl)

theorem ToieFollowsSeq.seqStep (h : ToieFollowsSeq s) (hstep : seqStep s = .next t) : ToieFollowsSeq t := by
  cases hseq : s.seq with
  | idle =>
    cases (seqStep_idle hseq).symm.trans hstep
    exact h
  | busy c k =>
    by_cases hc : snapshotting c
    · obtain ⟨-, htoie, k', hk', hseq'⟩ | ⟨-, htoie, hidle⟩ | ⟨hk, htoie, k', hk', hseq'⟩ :=
        seqStep_critical hc hseq hstep
      · exact .of_critical hc hk' hseq' htoie
      · exact .of_not_critical (by rw [hidle]; rfl) htoie
      · exact .of_critical hc hk' hseq' (htoie.trans (h.toie_of_critical hk hseq))
    · obtain ⟨hidle, htoie⟩ := seqStep_of_not_snapshotting hc hseq hstep
      exact .of_not_critical (by rw [hidle]; rfl) (htoie.trans (h.toie_of_not_snapshotting hc hseq))

theorem ToieFollowsSeq.fire {ev : Event} (h : ToieFollowsSeq s) (hen : enabled ev s = true) :
    ToieFollowsSeq (fire ev s) := by
  by_cases hrst : ev = .rst false
  · subst hrst
    exact .of_not_critical rfl rfl
  by_cases haccept : ev = .accept
  · subst haccept
    obtain ⟨⟨-, hidle⟩, hport⟩ := enabled_accept_iff.mp hen
    obtain ⟨c, hc⟩ := Option.isSome_iff_exists.mp hport
    have hfire : Machine.fire .accept s = acceptWord c s := by simp only [Machine.fire, acceptCmd, hc]
    rw [hfire]
    exact .of_not_critical rfl (h.toie_of_not_critical (by rw [hidle]; rfl))
  exact h.congr (fire_toie hrst) (fire_seq haccept hrst)

theorem ToieFollowsSeq.react {ev : Event} (h : ToieFollowsSeq s) (hreact : react ev s = .next t) :
    ToieFollowsSeq t := by
  obtain ⟨-, heq⟩ | ⟨-, -, heq⟩ | ⟨-, hen, heq⟩ := react_cases ev s <;> rw [heq] at hreact
  · cases hreact
    exact h
  · exact h.seqStep hreact
  · cases hreact
    exact h.fire hen

/-- TOIE follows SEQ in every state of every run from reset. -/
theorem ToieFollowsSeq.of_history {snaps : List Half} (run : History snaps s) : ToieFollowsSeq s := by
  induction run with
  | reset p agenda legal => exact .of_not_critical rfl rfl
  | step run moved ih => exact (ih.congr (dropEvent_toie _) (dropEvent_seq _)).react moved

end Sys2Proof.Machine

namespace Sys2Proof.Proofs

open Sys2Proof.Machine Sys2Proof.Claims Sys2Proof.Safety

/-- An event that changes TOIE and is not reset is S0 or S5 of a snapshotting command. -/
theorem toie_writers {ev : Event} {s t : State} (h : react ev s = .next t) (hrst : ev ≠ .rst false)
    (hne : t.toie ≠ s.toie) :
    ∃ c, snapshotting c ∧ (s.seq = .busy c .s0 ∧ t.toie = false ∨ s.seq = .busy c .s5 ∧ t.toie = true) := by
  obtain ⟨-, heq⟩ | ⟨-, -, heq⟩ | ⟨-, hen, heq⟩ := react_cases ev s <;> rw [heq] at h
  · cases h
    exact absurd rfl hne
  · cases hseq : s.seq with
    | idle =>
      cases (seqStep_idle hseq).symm.trans h
      exact absurd rfl hne
    | busy c k =>
      by_cases hc : snapshotting c
      · obtain ⟨rfl, htoie, -⟩ | ⟨rfl, htoie, -⟩ | ⟨-, htoie, -⟩ := seqStep_critical hc hseq h
        · exact ⟨c, hc, .inl ⟨rfl, htoie⟩⟩
        · exact ⟨c, hc, .inr ⟨rfl, htoie⟩⟩
        · exact absurd htoie hne
      · exact absurd (seqStep_of_not_snapshotting hc hseq h).2 hne
  · cases h
    exact absurd (fire_toie hrst) hne

/-- Settles O17: S5 accepts a snapshot (`seqStep_s5`), the writers of TOIE are `toie_writers`, and in every run TOIE
follows SEQ (`ToieFollowsSeq.of_history`). -/
theorem overflowSourceIsReenabled : Obligations.OverflowSourceIsReenabled := by
  refine ⟨fun s t c hc hrun hseq h => ?_, fun ev s t => toie_writers,
    fun snaps s run => (ToieFollowsSeq.of_history run).toie_of_not_critical⟩
  obtain ⟨u, hstep, haccepted⟩ := seqStep_s5 hc hseq
  rw [react_seq_busy hrun hseq, hstep] at h
  cases h
  exact haccepted.toie

end Sys2Proof.Proofs
end

section
/-!
PROOF. One attempt of a snapshot (40_timer_counter.md R104, R106 to R110): what the other agents leave as it is while TOIE
is 0, and where an attempt of SNAP or ETICK ends under any of their events.
-/
namespace Sys2Proof.Machine

open Sys2Proof.Claims Sys2Proof.Safety

/-! ## EXT while TOIE = 0 (40_timer_counter.md R106) -/

/-- SERVICE alone writes EXT, and it is disabled while TOIE is 0. -/
theorem react_ext {ev : Event} {s t : State} (htoie : s.toie = false) (hrst : ev ≠ .rst false)
    (h : react ev s = .next t) : t.ext = s.ext := by
  obtain ⟨-, heq⟩ | ⟨-, -, heq⟩ | ⟨-, hen, heq⟩ := react_cases ev s <;> rw [heq] at h
  · cases h
    rfl
  · obtain ⟨-, hext, -⟩ := counterRegs_eq_iff.mp (counterRegs_of_seqStep h)
    exact hext
  cases h
  cases ev with
  | pulseIn e => exact pulse_ext s
  | service =>
    obtain ⟨-, -, htoie'⟩ := enabled_service_iff.mp hen
    rw [htoie] at htoie'
    cases htoie'
  | accept =>
    simp only [fire, acceptCmd]
    split <;> rfl
  | rst level =>
    cases level with
    | false => exact absurd rfl hrst
    | true => rfl
  | seq | host | device => rfl

/-! ## Runs over chosen events -/

theorem after_cons {ev : Event} {evs : List Event} {s t : State} (h : react ev s = .next t) :
    after (ev :: evs) s = after evs t := by
  rw [after, h]

theorem after_append {evs evs' : List Event} {s t : State} (h : after evs s = some t) :
    after (evs ++ evs') s = after evs' t := by
  induction evs generalizing s with
  | nil =>
    cases h
    rfl
  | cons ev evs ih =>
    cases hreact : react ev s with
    | next u =>
      rw [after_cons hreact] at h
      rw [List.cons_append, after_cons hreact, ih h]
    | fault r => nomatch r
    | refused r =>
      rw [after, hreact] at h
      cases h

/-! ## The other agents during a read -/

/-- A snapshotting command with word `c` is past its S0, its next micro-step `k`: TOIE is 0. -/
structure Reading (c : Word) (k : Phase) (s : State) : Prop where
  word : snapshotting c
  run  : s.rstN = true
  toie : s.toie = false
  seq  : s.seq = .busy c k

/-- From `s` to `t` the other agents have taken steps, `n` of them PULSE, and EXT has not moved. -/
structure OthersMoved (n : Nat) (s t : State) : Prop where
  params : t.params = s.params
  run    : t.rstN = s.rstN
  toie   : t.toie = s.toie
  seq    : t.seq = s.seq
  ext    : t.ext = s.ext
  l1     : t.l1 = s.l1
  eLatch : t.eLatch = s.eLatch
  l2     : t.l2 = s.l2
  tcnt   : t.tcnt = s.tcnt + BitVec.ofNat 8 n

theorem OthersMoved.refl (s : State) : OthersMoved 0 s s :=
  ⟨rfl, rfl, rfl, rfl, rfl, rfl, rfl, rfl, (BitVec.add_zero _).symm⟩

theorem OthersMoved.trans {m n : Nat} {s t u : State} (h : OthersMoved m s t) (h' : OthersMoved n t u) :
    OthersMoved (m + n) s u where
  params := h'.params.trans h.params
  run    := h'.run.trans h.run
  toie   := h'.toie.trans h.toie
  seq    := h'.seq.trans h.seq
  ext    := h'.ext.trans h.ext
  l1     := h'.l1.trans h.l1
  eLatch := h'.eLatch.trans h.eLatch
  l2     := h'.l2.trans h.l2
  tcnt   := by rw [h'.tcnt, h.tcnt, BitVec.add_assoc, ← BitVec.ofNat_add]

theorem OthersMoved.reading {n : Nat} {c : Word} {k : Phase} {s t : State} (h : OthersMoved n s t)
    (hr : Reading c k s) : Reading c k t :=
  ⟨hr.word, h.run.trans hr.run, h.toie.trans hr.toie, h.seq.trans hr.seq⟩

/-- PULSE, as far as a read sees it. -/
theorem othersMoved_pulse (s : State) : OthersMoved 1 s (pulse s) := by
  constructor <;> simp [pulse_tcnt]

theorem countedEdges_cons (p : Params) (ev : Event) (evs : List Event) :
    countedEdges p (ev :: evs) = countedEdges p [ev] + countedEdges p evs := by
  simp only [countedEdges, List.countP_cons, List.countP_nil]
  omega

theorem countedEdges_append (p : Params) (evs evs' : List Event) :
    countedEdges p (evs ++ evs') = countedEdges p evs + countedEdges p evs' :=
  List.countP_append

section Attempt

variable {s : State} {c : Word} {k : Phase}

/-- One event of another agent during a read: SERVICE and acceptance are disabled, and of the rest only PULSE moves
anything the read sees. -/
theorem react_other (hr : Reading c k s) {ev : Event} (hother : isOther ev = true) :
    ∃ t, react ev s = .next t ∧ OthersMoved (countedEdges s.params [ev]) s t := by
  cases ev with
  | pulseIn e =>
    by_cases he : e = s.params.edge
    · subst he
      exact ⟨pulse s, react_pulse hr.run, by simpa [countedEdges] using othersMoved_pulse s⟩
    · refine ⟨s, react_disabled (by simp [enabled, he]), ?_⟩
      simpa [countedEdges, he] using OthersMoved.refl s
  | service => exact ⟨s, react_disabled (by simp [enabled, serviceEnabled, hr.toie]), .refl s⟩
  | accept => exact ⟨s, react_disabled (by simp [enabled, cmdReady, hr.seq]), .refl s⟩
  | seq => cases hother
  | host cmd => exact ⟨driveCmd cmd s, rfl, rfl, rfl, rfl, rfl, rfl, rfl, rfl, rfl, (BitVec.add_zero _).symm⟩
  | device ch w => exact ⟨setDevice ch w s, rfl, rfl, rfl, rfl, rfl, rfl, rfl, rfl, rfl, (BitVec.add_zero _).symm⟩
  | rst level => cases hother

theorem after_others (hr : Reading c k s) {evs : List Event} (hother : ∀ ev ∈ evs, isOther ev = true) :
    ∃ t, after evs s = some t ∧ OthersMoved (countedEdges s.params evs) s t := by
  induction evs generalizing s with
  | nil => exact ⟨s, rfl, .refl s⟩
  | cons ev evs ih =>
    obtain ⟨hev, hevs⟩ := List.forall_mem_cons.mp hother
    obtain ⟨t, hreact, hmoved⟩ := react_other hr hev
    obtain ⟨u, hafter, hmoved'⟩ := ih (hmoved.reading hr) hevs
    rw [hmoved.params] at hmoved'
    exact ⟨u, (after_cons hreact).trans hafter, countedEdges_cons s.params ev evs ▸ hmoved.trans hmoved'⟩

/-- A micro-step of the read, then events of the other agents. -/
theorem after_seq_others {t : State} (hr : Reading c k s) (hstep : seqStep s = .next t) {k' : Phase}
    (hr' : Reading c k' t) {evs : List Event} (hother : ∀ ev ∈ evs, isOther ev = true) :
    ∃ u, after (.seq :: evs) s = some u ∧ Reading c k' u ∧ OthersMoved (countedEdges t.params evs) t u := by
  obtain ⟨u, hafter, hmoved⟩ := after_others hr' hother
  exact ⟨u, (after_cons ((react_seq_busy hr.run hr.seq).trans hstep)).trans hafter, hmoved.reading hr', hmoved⟩

/-! ## One attempt -/

variable {o1 o2 o3 o4 : List Event}

/-- The first half of an attempt, S1 and S2: L1 is TCNT at its start and E is EXT. -/
theorem after_reads (hr : Reading c .s1 s) (h1 : ∀ ev ∈ o1, isOther ev = true) (h2 : ∀ ev ∈ o2, isOther ev = true) :
    ∃ v, after ((.seq :: o1) ++ (.seq :: o2)) s = some v ∧ Reading c .s3 v ∧
      v.params = s.params ∧ v.ext = s.ext ∧ v.l1 = s.tcnt ∧ v.eLatch = s.ext ∧
      v.tcnt = s.tcnt + BitVec.ofNat 8 (countedEdges s.params (o1 ++ o2)) := by
  obtain ⟨u, hu, hru, hmu⟩ := after_seq_others hr (seqStep_s1 hr.word hr.seq) ⟨hr.word, hr.run, hr.toie, rfl⟩ h1
  obtain ⟨v, hv, hrv, hmv⟩ := after_seq_others hru (seqStep_s2 hru.word hru.seq) ⟨hru.word, hru.run, hru.toie, rfl⟩ h2
  refine ⟨v, (after_append hu).trans hv, hrv, hmv.params.trans hmu.params, hmv.ext.trans hmu.ext, hmv.l1.trans hmu.l1,
    hmv.eLatch.trans hmu.ext, ?_⟩
  rw [hmv.tcnt, hmu.tcnt, hmu.params, countedEdges_append, BitVec.ofNat_add, BitVec.add_assoc]

/-- The second half, S3 and S4: L2 is TCNT at its start, and the attempt is accepted where that is L1. -/
theorem after_check (hr : Reading c .s3 s) (h3 : ∀ ev ∈ o3, isOther ev = true) (h4 : ∀ ev ∈ o4, isOther ev = true) :
    ∃ u, after ((.seq :: o3) ++ (.seq :: o4)) s = some u ∧ Reading c (if s.l1 ≠ s.tcnt then .s1 else .s5) u ∧
      u.params = s.params ∧ u.ext = s.ext ∧ u.l1 = s.l1 ∧ u.eLatch = s.eLatch ∧ u.l2 = s.tcnt ∧
      u.tcnt = s.tcnt + BitVec.ofNat 8 (countedEdges s.params (o3 ++ o4)) := by
  obtain ⟨v, hv, hrv, hmv⟩ := after_seq_others hr (seqStep_s3 hr.word hr.seq) ⟨hr.word, hr.run, hr.toie, rfl⟩ h3
  obtain ⟨u, hu, hru, hmu⟩ := after_seq_others hrv (seqStep_s4 hrv.word hrv.seq) ⟨hrv.word, hrv.run, hrv.toie, rfl⟩ h4
  rw [hmv.l1, hmv.l2] at hru
  refine ⟨u, (after_append hv).trans hu, hru, hmu.params.trans hmv.params, hmu.ext.trans hmv.ext, hmu.l1.trans hmv.l1,
    hmu.eLatch.trans hmv.eLatch, hmu.l2.trans hmv.l2, ?_⟩
  rw [hmu.tcnt, hmv.tcnt, hmv.params, countedEdges_append, BitVec.ofNat_add, BitVec.add_assoc]

/-- An attempt from `s` to `u`, with `m` PULSE steps between its reads of TCNT and `n` after the second. -/
structure Attempted (c : Word) (m n : Nat) (s u : State) : Prop where
  reading : Reading c (if u.l1 ≠ u.l2 then .s1 else .s5) u
  params  : u.params = s.params
  ext     : u.ext = s.ext
  l1      : u.l1 = s.tcnt
  eLatch  : u.eLatch = s.ext
  l2      : u.l2 = s.tcnt + BitVec.ofNat 8 m
  tcnt    : u.tcnt = s.tcnt + BitVec.ofNat 8 (m + n)

theorem attempt_eq_append (o1 o2 o3 o4 : List Event) :
    attempt o1 o2 o3 o4 = ((.seq :: o1) ++ (.seq :: o2)) ++ ((.seq :: o3) ++ (.seq :: o4)) := by
  simp [attempt]

/-- An attempt under any events of the other agents: `v` is its state before S3, `u` its end. -/
theorem after_attempt (hr : Reading c .s1 s) (hother : ∀ ev ∈ o1 ++ o2 ++ o3 ++ o4, isOther ev = true) :
    ∃ v u, after ([Event.seq] ++ o1 ++ [Event.seq] ++ o2) s = some v ∧ after (attempt o1 o2 o3 o4) s = some u ∧
      u.l2 = v.tcnt ∧ Attempted c (countedEdges s.params (o1 ++ o2)) (countedEdges s.params (o3 ++ o4)) s u := by
  simp only [List.forall_mem_append] at hother
  obtain ⟨⟨⟨h1, h2⟩, h3⟩, h4⟩ := hother
  obtain ⟨v, hv, hrv, hparams, hext, hl1, heLatch, htcnt⟩ := after_reads hr h1 h2
  obtain ⟨u, hu, hru, hparams', hext', hl1', heLatch', hl2, htcnt'⟩ := after_check hrv h3 h4
  refine ⟨v, u, by simpa using hv, ?_, hl2, ?_⟩
  · rw [attempt_eq_append, after_append hv, hu]
  · exact {
      reading := by rwa [hl1', hl2]
      params := hparams'.trans hparams
      ext := hext'.trans hext
      l1 := hl1'.trans hl1
      eLatch := heLatch'.trans heLatch
      l2 := hl2.trans htcnt
      tcnt := by rw [htcnt', htcnt, hparams, BitVec.ofNat_add, BitVec.add_assoc] }

/-- S5 after an attempt: the command ends with the value {E, L1} in SNAP. -/
theorem after_seq_s5 (hr : Reading c .s5 s) : ∃ t, after [.seq] s = some t ∧ SnapshotAccepted s t := by
  obtain ⟨t, hstep, haccepted⟩ := seqStep_s5 hr.word hr.seq
  exact ⟨t, after_cons ((react_seq_busy hr.run hr.seq).trans hstep), haccepted⟩

/-- An attempt with one PULSE between its reads goes back to S1. -/
theorem Attempted.retried {n : Nat} {u : State} (h : Attempted c 1 n s u) :
    u.l1 ≠ u.l2 ∧ Reading c .s1 u := by
  have hne : u.l1 ≠ u.l2 := by
    rw [h.l1, h.l2]
    bv_omega
  have hr := h.reading
  rw [if_pos hne] at hr
  exact ⟨hne, hr⟩

/-- An attempt with no PULSE between its reads is accepted. -/
theorem Attempted.accepted {n : Nat} {u : State} (h : Attempted c 0 n s u) : Reading c .s5 u := by
  have heq : u.l1 = u.l2 := by
    rw [h.l1, h.l2]
    exact (BitVec.add_zero _).symm
  have hr := h.reading
  rwa [if_neg (not_not.mpr heq)] at hr

/-- Five micro-steps from S1, undisturbed, complete the command with EXT and TCNT. -/
theorem after_five_seq (hr : Reading c .s1 s) :
    ∃ t, after (List.replicate 5 .seq) s = some t ∧ t.seq = .idle ∧ t.tcnt = s.tcnt ∧ t.ext = s.ext ∧
      t.snap.toNat = 256 * s.ext.toNat + s.tcnt.toNat := by
  obtain ⟨-, u, -, hu, -, hend⟩ := after_attempt (o1 := []) (o2 := []) (o3 := []) (o4 := []) hr nofun
  obtain ⟨t, ht, haccepted⟩ := after_seq_s5 hend.accepted
  obtain ⟨htcnt, hext, -⟩ := counterRegs_eq_iff.mp haccepted.counter
  refine ⟨t, (after_append hu).trans ht, haccepted.seq, ?_, hext.trans hend.ext, ?_⟩
  · exact (htcnt.trans hend.tcnt).trans (BitVec.add_zero _)
  · rw [haccepted.snap, snapshotValue_toNat, latchNum, hend.eLatch, hend.l1]

/-! ## EXT during an attempt -/

/-- How many micro-steps of SEQ can follow before S5. -/
def stepsBeforeAccept : Phase → Nat
  | .s0 => 0
  | .s1 => 4
  | .s2 => 3
  | .s3 => 2
  | .s4 => 1
  | .s5 => 0

/-- A micro-step before S5 stays in the read. -/
theorem Reading.seqStep (hr : Reading c k s) (hk : 0 < stepsBeforeAccept k) :
    ∃ t k', Machine.seqStep s = .next t ∧ Reading c k' t ∧ t.ext = s.ext ∧
      stepsBeforeAccept k ≤ stepsBeforeAccept k' + 1 := by
  obtain ⟨hc, hrun, htoie, hseq⟩ := hr
  cases k with
  | s0 | s5 => cases hk
  | s1 => exact ⟨_, .s2, seqStep_s1 hc hseq, ⟨hc, hrun, htoie, rfl⟩, rfl, le_rfl⟩
  | s2 => exact ⟨_, .s3, seqStep_s2 hc hseq, ⟨hc, hrun, htoie, rfl⟩, rfl, le_rfl⟩
  | s3 => exact ⟨_, .s4, seqStep_s3 hc hseq, ⟨hc, hrun, htoie, rfl⟩, rfl, le_rfl⟩
  | s4 => exact ⟨_, _, seqStep_s4 hc hseq, ⟨hc, hrun, htoie, rfl⟩, rfl, Nat.le_add_left ..⟩

/-- While SEQ does not reach S5, EXT stays as it is. -/
theorem ext_of_after {evs : List Event} {w : State} (hr : Reading c k s)
    (hevs : ∀ ev ∈ evs, ev = .seq ∨ isOther ev = true) (hcount : evs.count .seq ≤ stepsBeforeAccept k)
    (h : after evs s = some w) : w.ext = s.ext := by
  induction evs generalizing s k with
  | nil =>
    cases h
    rfl
  | cons ev evs ih =>
    obtain ⟨hev, hrest⟩ := List.forall_mem_cons.mp hevs
    obtain rfl | hother := hev
    · rw [List.count_cons_self] at hcount
      obtain ⟨t, k', hstep, hr', hext, hleft⟩ := hr.seqStep (by omega)
      rw [after_cons ((react_seq_busy hr.run hr.seq).trans hstep)] at h
      exact (ih hr' hrest (by omega) h).trans hext
    · obtain ⟨t, hreact, hmoved⟩ := react_other hr hother
      rw [after_cons hreact] at h
      have hcount' : evs.count .seq ≤ stepsBeforeAccept k := List.count_le_count_cons.trans hcount
      exact (ih (hmoved.reading hr) hrest hcount' h).trans hmoved.ext

theorem count_seq_of_others {evs : List Event} (hother : ∀ ev ∈ evs, isOther ev = true) : evs.count .seq = 0 :=
  List.count_eq_zero.mpr fun hmem => nomatch hother _ hmem

/-- EXT is the same at every point of an attempt (40_timer_counter.md R106). -/
theorem ext_of_attempt {pre : List Event} {w : State} (hr : Reading c .s1 s)
    (hother : ∀ ev ∈ o1 ++ o2 ++ o3 ++ o4, isOther ev = true) (hpre : pre <+: attempt o1 o2 o3 o4)
    (h : after pre s = some w) : w.ext = s.ext := by
  simp only [List.forall_mem_append] at hother
  obtain ⟨⟨⟨h1, h2⟩, h3⟩, h4⟩ := hother
  refine ext_of_after hr (fun ev hmem => ?_) ?_ h
  · have hmem' := hpre.subset hmem
    simp only [attempt, List.mem_append, List.mem_singleton] at hmem'
    obtain ((((((hev | hev) | hev) | hev) | hev) | hev) | hev) | hev := hmem'
    exacts [.inl hev, .inr (h1 _ hev), .inl hev, .inr (h2 _ hev), .inl hev, .inr (h3 _ hev), .inl hev, .inr (h4 _ hev)]
  · calc pre.count .seq
      _ ≤ (attempt o1 o2 o3 o4).count .seq := hpre.sublist.count_le _
      _ = 4 := by
        simp [attempt, List.count_append, count_seq_of_others h1, count_seq_of_others h2, count_seq_of_others h3,
          count_seq_of_others h4]

end Attempt

end Sys2Proof.Machine

namespace Sys2Proof.Proofs

open Sys2Proof.Machine Sys2Proof.Claims Sys2Proof.Safety

/-- Settles O18: SERVICE, the one writer of EXT, is disabled while TOIE is 0 (`react_ext`), which it is at every point of
an attempt (`ext_of_attempt`); an attempt ends at S5 only where L1 = L2 (`after_attempt`). -/
theorem acceptedSnapshotIsNotTorn : Obligations.AcceptedSnapshotIsNotTorn := by
  refine ⟨fun ev s t => react_ext, fun s c o1 o2 o3 o4 hrun htoie hc hseq hother => ?_⟩
  have hr : Reading c .s1 s := ⟨hc, hrun, htoie, hseq⟩
  obtain ⟨v, u, hv, hu, hl2, hend⟩ := after_attempt hr hother
  refine ⟨v, u, hv, hu, fun pre w => ext_of_attempt hr hother, fun hs5 => ⟨hend.eLatch, hend.l1, ?_⟩⟩
  have haccepted : u.l1 = u.l2 := by
    by_contra hne
    have hretry := hend.reading.seq
    rw [if_pos hne, hs5] at hretry
    cases hretry
  rw [← hl2, ← haccepted, hend.l1]

/-- Settles O21: the PULSE makes the first attempt's L2 one more than its L1 (`Attempted.retried`); the second attempt is
undisturbed (`after_five_seq`). -/
theorem oneEdgeBetweenTheReadsIsRetried : Obligations.OneEdgeBetweenTheReadsIsRetried := by
  intro s evs hrun htoie hseq hevs
  have hr : Reading (word 0x1 0 0) .s1 s := ⟨.inl rfl, hrun, htoie, hseq⟩
  obtain ⟨v, hv, hend⟩ : ∃ v, after evs s = some v ∧ Attempted (word 0x1 0 0) 1 0 s v := by
    obtain rfl | rfl := hevs
    · obtain ⟨-, v, -, hv, -, hend⟩ :=
        after_attempt (o1 := [pulseEvent s.params]) (o2 := []) (o3 := []) (o4 := []) hr (by simp [pulseEvent, isOther])
      exact ⟨v, hv, by simpa [countedEdges, pulseEvent] using hend⟩
    · obtain ⟨-, v, -, hv, -, hend⟩ :=
        after_attempt (o1 := []) (o2 := [pulseEvent s.params]) (o3 := []) (o4 := []) hr (by simp [pulseEvent, isOther])
      exact ⟨v, hv, by simpa [countedEdges, pulseEvent] using hend⟩
  obtain ⟨hne, hrv⟩ := hend.retried
  obtain ⟨t, ht, hidle, htcnt, hext, hsnap⟩ := after_five_seq hrv
  have htcnt' : t.tcnt.toNat = (s.tcnt.toNat + 1) % 256 := by
    rw [htcnt, hend.tcnt, BitVec.toNat_add, BitVec.toNat_ofNat]
  refine ⟨v, t, hv, hne, hrv.seq, ht, hidle, htcnt', hext.trans hend.ext, ?_⟩
  rw [hsnap, ← htcnt, hend.ext, htcnt']

end Sys2Proof.Proofs
end

section
/-!
PROOF. The frequency estimator: the micro-steps of ETICK (41_frequency_estimator.md R131), the sum that EQRY answers
(R133), and the ring as the record of the last CAP deltas (R134): what an event does to RING, CUR and PREV, the window of
a history of ticks, which every event keeps, and its sum.
-/
namespace Sys2Proof.Machine

open Sys2Proof.Claims

/-! ## The delta of a tick as a number (R131) -/

theorem tickDelta_eq_ofNat (s : State) :
    tickDelta s = BitVec.ofNat 16 ((latchNum s + 65536 - s.prev.toNat) % 65536) := by
  have := s.prev.isLt
  apply BitVec.eq_of_toNat_eq
  rw [tickDelta, BitVec.toNat_sub, snapshotValue_toNat, BitVec.toNat_ofNat]
  omega

theorem setWidth_tickDelta (s : State) :
    (tickDelta s).setWidth 32 = BitVec.ofNat 32 ((latchNum s + 65536 - s.prev.toNat) % 65536) := by
  rw [tickDelta_eq_ofNat, BitVec.setWidth_ofNat_of_le_of_lt (by decide) (Nat.mod_lt _ (by decide))]

/-! ## The sum of the ring (R133) -/

theorem sumBits_le (p : Params) : sumBits p ≤ 32 := by
  unfold sumBits
  split <;> decide

theorem windowFreq_toNat (s : State) : (windowFreq s).toNat = windowSum s % 2 ^ sumBits s.params := by
  have hmod : windowSum s % 2 ^ sumBits s.params < 2 ^ sumBits s.params := Nat.mod_lt _ (Nat.two_pow_pos _)
  have hpow : 2 ^ sumBits s.params ≤ 2 ^ 32 := Nat.pow_le_pow_right Nat.two_pos (sumBits_le _)
  rw [windowFreq, BitVec.toNat_ofNat, Nat.mod_eq_of_lt (hmod.trans_le hpow)]

/-- CAP entries below 2^16, CAP at most 2^12: the exact sum has 28 bits. -/
theorem windowSum_lt {s : State} (hcap : s.params.cap ≤ 4096) (hring : s.ring.length = s.params.cap) :
    windowSum s < 2 ^ 32 := by
  have hsum : windowSum s ≤ (s.ring.map BitVec.toNat).length • 65535 := by
    refine List.sum_le_card_nsmul _ _ fun n hn => ?_
    obtain ⟨d, -, rfl⟩ := List.mem_map.mp hn
    exact Nat.le_pred_of_lt d.isLt
  rw [List.length_map, hring, smul_eq_mul] at hsum
  omega

/-! ## RING, CUR and PREV under every event -/

/-- RING, CUR and PREV, which ETICK and reset alone write, and the parameters, which size them and nothing writes. -/
structure EstimatorRegs where
  params : Params
  ring   : List Half
  cur    : BitVec 12
  prev   : Half

/-- The estimator registers of a state. -/
def estimatorRegs (s : State) : EstimatorRegs := ⟨s.params, s.ring, s.cur, s.prev⟩

theorem estimatorRegs_eq_iff {s t : State} :
    estimatorRegs t = estimatorRegs s ↔
      t.params = s.params ∧ t.ring = s.ring ∧ t.cur = s.cur ∧ t.prev = s.prev := by
  simp [estimatorRegs]

@[simp] theorem estimatorRegs_dropEvent (s : State) : estimatorRegs (dropEvent s) = estimatorRegs s :=
  estimatorRegs_eq_iff.mpr ⟨dropEvent_params s, dropEvent_ring s, dropEvent_cur s, dropEvent_prev s⟩

@[simp] theorem estimatorRegs_pulse (s : State) : estimatorRegs (pulse s) = estimatorRegs s :=
  estimatorRegs_eq_iff.mpr ⟨pulse_params s, pulse_ring s, pulse_cur s, pulse_prev s⟩

@[simp] theorem estimatorRegs_sendWiper (ch : Channel) (w : Byte) (s : State) :
    estimatorRegs (sendWiper ch w s) = estimatorRegs s := rfl

@[simp] theorem estimatorRegs_complete (v : Word) (s : State) : estimatorRegs (complete v s) = estimatorRegs s := rfl

@[simp] theorem estimatorRegs_sendCoarse (k1 : Byte) (s : State) :
    estimatorRegs (sendCoarse k1 s) = estimatorRegs s := by
  obtain ⟨h, -⟩ | ⟨h, -⟩ := sendCoarse_cases k1 s <;> rw [h]
  exact estimatorRegs_sendWiper ..

@[simp] theorem estimatorRegs_tuneFrames (m : TuneMove) (s : State) :
    estimatorRegs (tuneFrames m s) = estimatorRegs s := by
  unfold tuneFrames
  split <;> simp

/-- Of the micro-steps of a snapshot only S5 can write the estimator's registers. -/
theorem estimatorRegs_snapshotStep {c : Word} {finish : State → State} {s : State}
    (hfinish : phaseOf s.seq = .s5 → estimatorRegs (finish s) = estimatorRegs s) :
    estimatorRegs (snapshotStep c finish s) = estimatorRegs s := by
  cases h : phaseOf s.seq with
  | s0 => rw [snapshotStep_s0 h]; rfl
  | s1 => rw [snapshotStep_s1 h]; rfl
  | s2 => rw [snapshotStep_s2 h]; rfl
  | s3 => rw [snapshotStep_s3 h]; rfl
  | s4 => rw [snapshotStep_s4 h]; rfl
  | s5 => rw [snapshotStep_s5 h, hfinish h]

variable {s t : State} {ev : Event}

theorem estimatorRegs_of_checked {legal : Bool} {code : CmdError} {s' : State}
    (h : checked legal code s s' = .next t) (hs' : estimatorRegs s' = estimatorRegs s) :
    estimatorRegs t = estimatorRegs s := by
  obtain ⟨-, rfl⟩ | ⟨-, rfl⟩ := checked_eq_next h
  · exact hs'
  · rfl

/-- S5 of ETICK excepted, no micro-step of a command writes an estimator register. -/
theorem estimatorRegs_of_exec {i : Instr} (h : exec i s = .next t) (htick : i = .etick → phaseOf s.seq ≠ .s5) :
    estimatorRegs t = estimatorRegs s := by
  cases i with
  | snap =>
    cases h
    exact estimatorRegs_snapshotStep fun _ => rfl
  | etick =>
    cases h
    exact estimatorRegs_snapshotStep fun h5 => absurd h5 (htick rfl)
  | eqry =>
    cases h
    rfl
  | pset | psetr | pr2w | pw2r | stgt => exact estimatorRegs_of_checked h rfl
  | tune =>
    simp only [exec, execTune] at h
    split at h <;> cases h <;> simp
  | rdreg idx =>
    simp only [exec, execRdreg] at h
    split at h <;> cases h <;> rfl

/-- S5 of ETICK as SEQ runs it. -/
theorem seqStep_tick (hseq : s.seq = .busy (encode .etick) .s5) :
    seqStep s = .next (complete ((tickDelta s).setWidth 32) (recordTick (acceptSnapshot s))) := by
  rw [seqStep_ok hseq (decode_encode .etick), exec, execEtick, snapshotStep_s5 (phaseOf_busy hseq)]

theorem estimatorRegs_of_seqStep (h : seqStep s = .next t) (htick : s.seq ≠ .busy (encode .etick) .s5) :
    estimatorRegs t = estimatorRegs s := by
  obtain ⟨-, hs⟩ | ⟨c, k, code, -, -, hs⟩ | ⟨c, k, i, hseq, hd, hs⟩ := seqStep_cases s <;> rw [hs] at h
  · cases h
    rfl
  · cases h
    rfl
  · refine estimatorRegs_of_exec h fun hi hk => htick ?_
    rw [phaseOf_busy hseq] at hk
    rw [hseq, hk, ← encode_of_decode_eq_ok hd, hi]

/-- No agent but SEQ writes an estimator register, and of the inputs only reset. -/
theorem estimatorRegs_fire (hrst : ev ≠ .rst false) : estimatorRegs (fire ev s) = estimatorRegs s := by
  cases ev with
  | pulseIn e => exact estimatorRegs_pulse s
  | accept =>
    simp only [fire, acceptCmd]
    split <;> rfl
  | rst level =>
    cases level with
    | false => exact absurd rfl hrst
    | true => rfl
  | service | seq | host | device => rfl

end Sys2Proof.Machine

namespace Sys2Proof.Safety

open Sys2Proof.Machine

variable {s t : State} {ev : Event} {snaps : List Half}

theorem completesTick_iff :
    completesTick ev s = true ↔ ev = .seq ∧ s.rstN = true ∧ s.seq = .busy (encode .etick) .s5 := by
  unfold completesTick
  split
  case h_1 c hseq => simp [hseq]
  case h_2 h => exact ⟨nofun, fun ⟨hev, _, hseq⟩ => (h _ hev hseq).elim⟩

/-- What an event does to the estimator: reset clears it, S5 of ETICK records its tick, no other event touches it. -/
def estimatorNext (ev : Event) (s : State) : State :=
  if ev = .rst false then State.resetWith s.params
  else if completesTick ev s then recordTick s
  else s

theorem estimatorNext_params (ev : Event) (s : State) : (estimatorNext ev s).params = s.params := by
  unfold estimatorNext
  split
  · rfl
  · split <;> rfl

theorem estimatorRegs_of_react (h : react ev s = .next t) : estimatorRegs t = estimatorRegs (estimatorNext ev s) := by
  by_cases hrst : ev = .rst false
  · subst hrst
    cases h
    rfl
  rw [estimatorNext, if_neg hrst]
  split
  case isTrue htick =>
    obtain ⟨rfl, hrun, hseq⟩ := completesTick_iff.mp htick
    rw [react_seq_busy hrun hseq, seqStep_tick hseq] at h
    cases h
    rfl
  case isFalse htick =>
    obtain ⟨-, heq⟩ | ⟨rfl, hen, heq⟩ | ⟨-, -, heq⟩ := react_cases ev s <;> rw [heq] at h
    · cases h
      rfl
    · have hrun : s.rstN = true := (Bool.and_eq_true_iff.mp hen).1
      exact estimatorRegs_of_seqStep h fun hseq => htick (completesTick_iff.mpr ⟨rfl, hrun, hseq⟩)
    · cases h
      exact estimatorRegs_fire hrst

/-! ## The deltas of a list of snapshots -/

theorem diffs_concat (before x : Half) (snaps : List Half) :
    diffs before (snaps ++ [x]) = diffs before snaps ++ [x - snaps.getLastD before] := by
  induction snaps generalizing before with
  | nil => rfl
  | cons y ys ih => rw [List.cons_append, diffs, ih, diffs, List.getLastD_cons, List.cons_append]

/-- The delta of one more tick comes first among the deltas, latest first. -/
theorem deltas_concat_reverse (snaps : List Half) (x : Half) :
    (deltas (snaps ++ [x])).reverse = (x - snaps.getLastD 0) :: (deltas snaps).reverse := by
  rw [deltas, diffs_concat, List.reverse_append, List.reverse_singleton, List.singleton_append, deltas]

/-! ## The window under every event (R131, R134) -/

theorem Window.congr (hw : Window snaps s) (h : estimatorRegs t = estimatorRegs s) : Window snaps t := by
  obtain ⟨hparams, hring, hcur, hprev⟩ := estimatorRegs_eq_iff.mp h
  constructor <;> simp only [hparams, hring, hcur, hprev]
  exacts [hw.prev, hw.length, hw.cur, hw.entry]

theorem Window.reset (p : Params) : Window [] (State.resetWith p) where
  prev   := rfl
  length := List.length_replicate
  cur    := (Nat.zero_mod _).symm
  entry  := fun _ _ =>
    List.getD_eq_getElem?_getD.trans (List.getElem?_getD_replicate_default_eq ..)

/-- The cursor is on none of the last CAP - 1 places behind it. -/
theorem cursor_ne_place {n cap j : Nat} (hj : j + 1 < cap) : n % cap ≠ (n + cap - 1 - j) % cap := by
  intro h
  rw [Nat.add_sub_assoc (by omega), Nat.add_sub_assoc (by omega)] at h
  have hzero : 0 ≡ cap - 1 - j [MOD cap] := Nat.ModEq.add_left_cancel' n h
  rw [Nat.ModEq, Nat.zero_mod, Nat.mod_eq_of_lt (by omega)] at hzero
  omega

/-- One more tick: its delta stands at the cursor, and the entry `j` places behind the old cursor is now `j + 1` places
behind the new one; none of those places is the cursor's, so none was overwritten. -/
theorem Window.tick (hw : Window snaps s) (hlegal : s.params.Legal) :
    Window (snaps ++ [snapshotValue s]) (recordTick s) := by
  obtain ⟨⟨hpos, hcap⟩, -⟩ := hlegal
  obtain ⟨hprev, hlength, hcur, hentry⟩ := hw
  have hmod : snaps.length % s.params.cap < s.params.cap := Nat.mod_lt _ hpos
  refine ⟨by simp, by simp [hlength], ?_, fun j hj => ?_⟩
  · have hlt := Nat.mod_lt (snaps.length + 1) hpos
    rw [recordTick_cur, hcur, Nat.mod_add_mod, BitVec.toNat_ofNat, Nat.mod_eq_of_lt (by omega), List.length_append]
    rfl
  · rw [recordTick_params] at hj ⊢
    rw [recordTick_ring, deltas_concat_reverse, List.length_append, List.length_singleton, hcur, tickDelta, hprev]
    cases j with
    | zero =>
      rw [List.getD_cons_zero, Nat.sub_zero, Nat.add_right_comm, Nat.add_sub_cancel, Nat.add_mod_right]
      rw [List.getD_eq_getElem?_getD, List.getElem?_set_self (hlength ▸ hmod), Option.getD_some]
    | succ j =>
      have hplace : snaps.length + 1 + s.params.cap - 1 - (j + 1) = snaps.length + s.params.cap - 1 - j := by omega
      rw [List.getD_cons_succ, hplace, ← hentry j (by omega), List.getD_eq_getElem?_getD,
        List.getElem?_set_ne (cursor_ne_place (by omega)), List.getD_eq_getElem?_getD]

theorem snapsAfter_dropEvent (ev : Event) (s : State) (snaps : List Half) :
    snapsAfter ev (dropEvent s) snaps = snapsAfter ev s snaps := by
  have hticks : completesTick ev (dropEvent s) = completesTick ev s := by
    rw [Bool.eq_iff_iff, completesTick_iff, completesTick_iff, dropEvent_rstN, dropEvent_seq]
  rw [snapsAfter, hticks, snapshotValue, dropEvent_eLatch, dropEvent_l1, snapsAfter, snapshotValue]

theorem Window.next (hw : Window snaps s) (hlegal : s.params.Legal) :
    Window (snapsAfter ev s snaps) (estimatorNext ev s) := by
  unfold snapsAfter estimatorNext
  split
  · exact .reset s.params
  · split
    · exact hw.tick hlegal
    · exact hw

theorem estimatorRegs_of_step (h : step s = .next t) :
    estimatorRegs t = estimatorRegs (estimatorNext (nextEvent s) (dropEvent s)) :=
  estimatorRegs_of_react h

theorem params_of_step (h : step s = .next t) : t.params = s.params := by
  rw [(estimatorRegs_eq_iff.mp (estimatorRegs_of_step h)).1, estimatorNext_params, dropEvent_params]

theorem Window.step (hw : Window snaps s) (hlegal : s.params.Legal) (h : step s = .next t) :
    Window (snapsAfter (nextEvent s) s snaps) t := by
  rw [← snapsAfter_dropEvent]
  refine ((hw.congr (estimatorRegs_dropEvent s)).next ?_).congr (estimatorRegs_of_step h)
  rwa [dropEvent_params]

theorem legal_of_history (run : History snaps s) : s.params.Legal := by
  induction run with
  | reset p agenda legal => exact legal
  | step run moved ih => rwa [params_of_step moved]

/-- In every run from reset the estimator's state is that of the ticks since reset. -/
theorem Window.of_history (run : History snaps s) : Window snaps s := by
  induction run with
  | reset p agenda legal => exact (Window.reset p).congr rfl
  | step run moved ih => exact ih.step (legal_of_history run) moved

/-! ## The sum of the window (R134) -/

theorem getElem_takeD {α : Type} {n k : Nat} {l : List α} {a : α} (hk : k < (l.takeD n a).length) :
    (l.takeD n a)[k] = l.getD k a := by
  induction n generalizing k l with
  | zero => cases hk
  | succ n ih =>
    cases k with
    | zero => cases l <;> rfl
    | succ k => cases l <;> exact ih ..

/-- The ring read from the latest entry back: the deltas, latest first, then zeros. -/
theorem Window.ring_rotate_reverse (hw : Window snaps s) :
    (s.ring.rotate snaps.length).reverse = (deltas snaps).reverse.takeD s.params.cap 0 := by
  have hlength := hw.length
  refine List.ext_getElem (by simp [hlength]) fun j hj _ => ?_
  have hjcap : j < s.params.cap := by simpa [hlength] using hj
  have hplace : s.params.cap - 1 - j + snaps.length = snaps.length + s.params.cap - 1 - j := by omega
  have hmod := Nat.mod_lt (snaps.length + s.params.cap - 1 - j) (Nat.zero_lt_of_lt hjcap)
  rw [getElem_takeD, ← hw.entry j hjcap, List.getElem_reverse, List.getElem_rotate,
    List.getD_eq_getElem _ _ (hlength ▸ hmod)]
  simp only [List.length_rotate, hlength, hplace]

/-- The zeros that `takeD` appends add nothing. -/
theorem sum_map_takeD_zero (n : Nat) (l : List Half) :
    ((l.takeD n 0).map BitVec.toNat).sum = ((l.take n).map BitVec.toNat).sum := by
  induction n generalizing l with
  | zero => rfl
  | succ n ih =>
    cases l with
    | nil => simp
    | cons d l => exact congrArg (d.toNat + ·) (ih l)

/-- The exact sum of the ring is that of the last CAP deltas. -/
theorem Window.windowSum_eq (hw : Window snaps s) :
    windowSum s = ((lastN s.params.cap (deltas snaps)).map BitVec.toNat).sum := by
  have hperm : (s.ring.rotate snaps.length).reverse.Perm s.ring :=
    (List.reverse_perm _).trans (List.rotate_perm _ _)
  calc windowSum s
      = ((s.ring.rotate snaps.length).reverse.map BitVec.toNat).sum := (hperm.map _).sum_eq.symm
    _ = (((deltas snaps).reverse.take s.params.cap).map BitVec.toNat).sum := by
      rw [hw.ring_rotate_reverse, sum_map_takeD_zero]
    _ = ((lastN s.params.cap (deltas snaps)).map BitVec.toNat).sum := by
      rw [List.take_reverse, List.map_reverse, List.sum_reverse, lastN]

end Sys2Proof.Safety

namespace Sys2Proof.Proofs

open Sys2Proof.Machine Sys2Proof.Claims Sys2Proof.Safety

/-- Settles O25: EQRY answers the sum of the ring (`windowFreq_toNat`), and in every run the ring is the window of the
ticks since reset (`Window.of_history`), whose sum is that of the last deltas. -/
theorem queryIsTheSumOfTheLastDeltas : Obligations.QueryIsTheSumOfTheLastDeltas := by
  intro snaps s run
  refine ⟨_, rfl, rfl, ?_⟩
  rw [complete_freq, windowFreq_toNat, (Window.of_history run).windowSum_eq]

/-- Settles O23: EQRY's one word is `formatNWords_of_encode`; the sum of CAP entries of 16 bits fits in 32. -/
theorem eqrySumsTheWindow : Obligations.EqrySumsTheWindow := by
  refine ⟨formatNWords_of_encode (.inr (.inr (.inl rfl))) rfl, fun s => rfl, fun s t hlegal hring hwidth h => ?_⟩
  obtain ⟨⟨-, hcap⟩, -⟩ := hlegal
  have hbits : sumBits s.params = 32 := by rw [sumBits, hwidth]
  cases h
  rw [complete_freq, windowFreq_toNat, hbits, Nat.mod_eq_of_lt (windowSum_lt hcap hring), windowSum]

/-- Settles O22: ETICK's one word is `formatNWords_of_encode`; each micro-step is that phase of `snapshotStep`, with the
snapshot and the delta of S5 read as numbers. -/
theorem etickMicroSteps : Obligations.EtickMicroSteps := by
  refine ⟨formatNWords_of_encode (.inr (.inl rfl)) rfl, fun s => ?_⟩
  refine ⟨fun h => ?_, fun h => ?_, fun h => ?_, fun h => ?_, fun h hne => ?_, fun h heq => ?_, fun h => ?_⟩
  all_goals rw [exec, execEtick]
  · rw [snapshotStep_s0 (phaseOf_busy h)]; rfl
  · rw [snapshotStep_s1 (phaseOf_busy h)]; rfl
  · rw [snapshotStep_s2 (phaseOf_busy h)]; rfl
  · rw [snapshotStep_s3 (phaseOf_busy h)]; rfl
  · rw [snapshotStep_s4 (phaseOf_busy h), if_pos hne]; rfl
  · rw [snapshotStep_s4 (phaseOf_busy h), if_neg (not_not.mpr heq)]; rfl
  · rw [snapshotStep_s5 (phaseOf_busy h), setWidth_tickDelta, recordTick, tickDelta_eq_ofNat, snapshotValue_eq_ofNat,
      acceptSnapshot, snapshotValue_eq_ofNat]
    rfl

end Sys2Proof.Proofs
end

section
/-!
PROOF. The words of a format C command (30_encoding.md R81) and PSET (42_potentiometer.md R155).
-/
namespace Sys2Proof.Machine

open Sys2Proof.Claims

/-! ## The words of a format C command -/

theorem packWord_eq_word (op : BitVec 4) (ch : BitVec 2) (imm : Imm) :
    packWord op ch imm = word op.toNat ch.toNat imm.toNat := by
  rw [word, ← packWord_toNat, BitVec.ofNat_toNat, BitVec.setWidth_eq]

/-- A format C command has one word per channel and operand; RSV, the only reserved field, and CH = 3 are its errors. -/
theorem formatCWords_of_encode {op : BitVec 4} {mk : Channel → Imm → Instr} (hop : formatC op.toNat)
    (henc : ∀ ch v, encode (mk ch v) = packWord op (channelCode ch) v) : FormatCWords op.toNat mk := by
  refine ⟨fun ch v => ?_, fun c hc hrsv => ?_, fun c hc hrsv hch => ?_⟩
  · rw [← channelCode_toNat, ← packWord_eq_word, ← henc]
    exact decode_encode (mk ch v)
  · exact decode_of_reservedSet (by omega) (by omega) (.inl hrsv)
  · rw [← hc] at hop
    exact decode_of_chOf_three hop (mt (reservedSet_iff_of_formatC hop).mp (not_not.mpr hrsv)) hch

/-! ## The commands with a wiper operand (42_potentiometer.md R155, R158) -/

variable {s : State} {ch : Channel} {w : Imm}

theorem wiperLegal_eq_false_iff {p : Params} : wiperLegal p ch w = false ↔ stepsOf p ch ≤ w.toNat := by
  rw [← Bool.not_eq_true, wiperLegal_iff, not_lt]

theorem exec_pset_of_lt (h : w.toNat < stepsOf s.params ch) :
    exec (.pset ch w) s = .next (complete (w.setWidth 32) (sendWiper ch (w.setWidth 8) s)) :=
  checked_of_legal (wiperLegal_iff.mpr h)

theorem exec_pset_of_le (h : stepsOf s.params ch ≤ w.toNat) :
    exec (.pset ch w) s = .next (raiseErr .operandRange s) :=
  exec_of_not_wellFormed (wiperLegal_eq_false_iff.mpr h)

end Sys2Proof.Machine

namespace Sys2Proof.Proofs

open Sys2Proof.Machine Sys2Proof.Claims

/-- Settles O27: PSET's words are `formatCWords_of_encode`; the check of its operand splits its meaning at STEPS[ch]. -/
theorem psetSetsTheWiper : Obligations.PsetSetsTheWiper := by
  refine ⟨formatCWords_of_encode (op := 0x4) (by decide) fun _ _ => rfl, fun s ch w => ⟨fun h => ?_, exec_pset_of_le⟩⟩
  rw [exec_pset_of_lt h, BitVec.ofNat_toNat, BitVec.ofNat_toNat]
  rfl

end Sys2Proof.Proofs
end

section
/-!
PROOF. The words of a format I command (30_encoding.md R81), STGT (43_tuner.md R183) and TUNE (R185, R187): the guard
check and the carry as numbers, TUNE's whole next state, and what a TUNE that moves the fine wiper leaves.
-/
namespace Sys2Proof.Machine

open Sys2Proof.Claims

/-! ## The words of a format I command -/

/-- A format I command has one word per operand; CH and RSV, its reserved fields, are its errors. -/
theorem formatIWords_of_encode {op : BitVec 4} {mk : Imm → Instr} (hop : formatI op.toNat)
    (henc : ∀ v, encode (mk v) = packWord op 0 v) : FormatIWords op.toNat mk := by
  refine ⟨fun v => ?_, fun c hc hset => ?_⟩
  · have hword : word op.toNat 0 v.toNat = encode (mk v) := by
      rw [henc, packWord_eq_word]
      rfl
    exact hword ▸ decode_encode (mk v)
  · rw [← hc] at hop
    exact decode_of_reservedSet (by omega) (by omega) ((reservedSet_iff_of_formatI hop).mpr hset.symm)

/-! ## STGT (43_tuner.md R183) -/

theorem targetLegal_eq_false_iff {v : Imm} : targetLegal v = false ↔ v.toNat < 20000 ∨ 35000 < v.toNat := by
  rw [← Bool.not_eq_true, targetLegal_iff]
  omega

theorem exec_stgt_of_legal {v : Imm} (h : 20000 ≤ v.toNat ∧ v.toNat ≤ 35000) (s : State) :
    exec (.stgt v) s = .next (complete (v.setWidth 32) { s with target := v.setWidth 16 }) :=
  checked_of_legal (targetLegal_iff.mpr h)

theorem exec_stgt_of_illegal {v : Imm} (h : v.toNat < 20000 ∨ 35000 < v.toNat) (s : State) :
    exec (.stgt v) s = .next (raiseErr .operandRange s) :=
  exec_of_not_wellFormed (targetLegal_eq_false_iff.mpr h)

/-! ## The guard check and the carry as numbers (43_tuner.md R185) -/

/-- The guard check: a stepped fine wiper outside the band [28, 228]. -/
def crosses (f : Int) : Bool := decide (f < 28 ∨ 228 < f)

/-- The coarse wiper after the guard check of `f`, from `k0`: the carry, or `k0` in the band and at the rail. -/
def carriedCoarse (p : Params) (f : Int) (k0 : Nat) : Nat :=
  if f < 28 then (if 0 < k0 then k0 - 1 else k0)
  else if 228 < f then (if k0 < stepsOf p .coarse - 1 then k0 + 1 else k0)
  else k0

section Carry

variable {p : Params} {f : Int} {k0 : Nat}

theorem crosses_iff : crosses f = true ↔ f < 28 ∨ 228 < f := decide_eq_true_iff

theorem crosses_eq_false_iff : crosses f = false ↔ 28 ≤ f ∧ f ≤ 228 := by
  rw [← Bool.not_eq_true, crosses_iff]
  omega

/-- A carry moves the coarse wiper by one. -/
theorem carriedCoarse_cases (p : Params) (f : Int) (k0 : Nat) :
    carriedCoarse p f k0 = k0 ∨
    crosses f = true ∧ (carriedCoarse p f k0 + 1 = k0 ∨ carriedCoarse p f k0 = k0 + 1) := by
  rw [crosses_iff, carriedCoarse]
  split_ifs <;> omega

theorem carriedCoarse_of_band (h : crosses f = false) : carriedCoarse p f k0 = k0 := by
  obtain hsame | ⟨hcross, -⟩ := carriedCoarse_cases p f k0
  · exact hsame
  · exact absurd hcross (Bool.eq_false_iff.mp h)

theorem carriedCoarse_lt (h : k0 < stepsOf p .coarse) : carriedCoarse p f k0 < stepsOf p .coarse := by
  unfold carriedCoarse
  split_ifs <;> omega

/-- A carry shows in the byte, also where 255 wraps. -/
theorem ofNat_carriedCoarse_eq_iff {k : Byte} :
    BitVec.ofNat 8 (carriedCoarse p f k.toNat) = k ↔ carriedCoarse p f k.toNat = k.toNat := by
  have := k.isLt
  rw [← BitVec.toNat_inj, BitVec.toNat_ofNat]
  obtain h | ⟨-, h⟩ := carriedCoarse_cases p f k.toNat <;> omega

/-- What `tuneCarry` answers, in numbers. -/
theorem tuneCarry_eq (p : Params) (dir : BitVec 2) (f : Int) (k : Byte) :
    tuneCarry p dir f k =
      { dir := dir
        cross := crosses f
        clamp := crosses f && decide (carriedCoarse p f k.toNat = k.toNat)
        fine := BitVec.ofNat 8 (if crosses f then 128 else f.toNat)
        coarse := BitVec.ofNat 8 (carriedCoarse p f k.toNat) } := by
  obtain hlow | hhigh | ⟨hlo, hhi⟩ : f < 28 ∨ 228 < f ∨ (28 ≤ f ∧ f ≤ 228) := by omega
  · by_cases hrail : 0 < k.toNat
    · have hpred : k - 1#8 = BitVec.ofNat 8 (k.toNat - 1) := by bv_omega
      have hne : ¬ k.toNat - 1 = k.toNat := by omega
      simp [tuneCarry, carriedCoarse, crosses, guardLo, midScale, hlow, hrail, hne, hpred]
    · simp [tuneCarry, carriedCoarse, crosses, guardLo, midScale, hlow, hrail]
  · have hlow : ¬ f < 28 := by omega
    by_cases hrail : k.toNat < stepsOf p .coarse - 1
    · have hsucc : k + 1#8 = BitVec.ofNat 8 (k.toNat + 1) := by bv_omega
      simp [tuneCarry, carriedCoarse, crosses, guardLo, guardHi, midScale, hlow, hhigh, hrail, hsucc]
    · simp [tuneCarry, carriedCoarse, crosses, guardLo, guardHi, midScale, hlow, hhigh, hrail]
  · have hlow : ¬ f < 28 := by omega
    have hhigh : ¬ 228 < f := by omega
    simp [tuneCarry, carriedCoarse, crosses, guardLo, guardHi, hlow, hhigh]

end Carry

/-! ## The frames and the result of a TUNE (43_tuner.md R185) -/

/-- The frames that a move sends, oldest first. -/
def moveFrames (m : TuneMove) (s : State) : List Frame :=
  let coarse : List Frame := if m.coarse = s.wiper.coarse then [] else [⟨.coarse, 0x00, m.coarse⟩]
  match s.params.frameOrder with
  | .fineFirst   => ⟨.fine, 0x00, m.fine⟩ :: coarse
  | .coarseFirst => coarse ++ [⟨.fine, 0x00, m.fine⟩]

/-- One frame, and a second where the coarse wiper changes. -/
theorem length_moveFrames (m : TuneMove) (s : State) :
    (moveFrames m s).length = 1 + if m.coarse = s.wiper.coarse then 0 else 1 := by
  unfold moveFrames
  cases s.params.frameOrder <;> split_ifs <;> rfl

theorem tuneFrames_eq (m : TuneMove) (s : State) :
    tuneFrames m s =
      { s with
        wiper := { s.wiper with fine := m.fine, coarse := m.coarse }
        dev := { s.dev with fine := m.fine, coarse := if m.coarse = s.wiper.coarse then s.dev.coarse else m.coarse }
        frames := s.frames ++ moveFrames m s } := by
  unfold tuneFrames moveFrames
  cases s.params.frameOrder <;> by_cases hcoarse : m.coarse = s.wiper.coarse <;>
    simp [sendCoarse, sendWiper, chSet, potCommandByte, hcoarse]

theorem tuneResult_eq_ofNat (dir : BitVec 2) (cross clamp : Bool) :
    tuneResult dir cross clamp = BitVec.ofNat 32 (dir.toNat + 4 * cross.toNat + 8 * clamp.toNat) := by
  cases cross <;> cases clamp <;> revert dir <;> decide

theorem tuneResult_cross (dir : BitVec 2) (cross clamp : Bool) : (tuneResult dir cross clamp).getLsbD 2 = cross := by
  cases cross <;> cases clamp <;> revert dir <;> decide

theorem tuneResult_clamp (dir : BitVec 2) (cross clamp : Bool) : (tuneResult dir cross clamp).getLsbD 3 = clamp := by
  cases cross <;> cases clamp <;> revert dir <;> decide

/-! ## TUNE -/

variable {s t : State} {f : Int}

theorem exec_tune_of_eq (h : s.freq.toNat = s.target.toNat) : exec .tune s = .next (complete 0 s) := by
  rw [exec, execTune, tuneMove, if_pos h]

/-- The direction of the relay: down above the target, up below it. -/
def tuneDir (s : State) : BitVec 2 := if s.target.toNat < s.freq.toNat then 1 else 2

/-- The fine wiper moved by one, before the guard check. -/
def steppedFine (s : State) : Int := s.wiper.fine.toNat + if s.target.toNat < s.freq.toNat then -1 else 1

/-- The move of a TUNE off its target. -/
def relayMove (s : State) : TuneMove := tuneCarry s.params (tuneDir s) (steppedFine s) s.wiper.coarse

theorem exec_tune_of_ne (h : s.freq.toNat ≠ s.target.toNat) :
    exec .tune s = .next (complete (tuneResult (relayMove s).dir (relayMove s).cross (relayMove s).clamp)
      (tuneFrames (relayMove s) s)) := by
  have hmove : tuneMove s = some (relayMove s) := by
    rw [tuneMove, if_neg h]
    split_ifs with hdir
    · simp only [relayMove, tuneDir, steppedFine, if_pos hdir, Int.sub_eq_add_neg]
    · simp only [relayMove, tuneDir, steppedFine, if_neg hdir]
  rw [exec, execTune, hmove]

/-- TUNE answers the state of its pseudocode. -/
theorem exec_tune (s : State) : exec .tune s = .next (tuned s) := by
  by_cases h : s.freq.toNat = s.target.toNat
  · rw [exec_tune_of_eq h]
    simp only [tuned, if_pos h]
    rfl
  · rw [exec_tune_of_ne h]
    simp only [tuned, if_neg h, tuneFrames_eq, tuneResult_eq_ofNat, relayMove, tuneCarry_eq, moveFrames,
      ofNat_carriedCoarse_eq_iff]
    by_cases hdir : s.target.toNat < s.freq.toNat
    · simp only [tuneDir, steppedFine, if_pos hdir]
      rfl
    · simp only [tuneDir, steppedFine, if_neg hdir]
      rfl

/-- `t` is `s` after a TUNE that moves the fine wiper to `f`, before the guard check. -/
structure TuneMoved (f : Int) (s t : State) : Prop where
  params : t.params = s.params
  target : t.target = s.target
  pwm    : t.wiper.pwm = s.wiper.pwm
  fine   : (t.wiper.fine.toNat : Int) = if crosses f then 128 else f
  coarse : t.wiper.coarse = BitVec.ofNat 8 (carriedCoarse s.params f s.wiper.coarse.toNat)
  frames : t.frames.length =
    s.frames.length + (1 + if carriedCoarse s.params f s.wiper.coarse.toNat = s.wiper.coarse.toNat then 0 else 1)
  cross  : t.res.getLsbD 2 = crosses f
  clamp  : t.res.getLsbD 3 =
    (crosses f && decide (carriedCoarse s.params f s.wiper.coarse.toNat = s.wiper.coarse.toNat))

/-- A stepped fine wiper inside the band fits in a byte. -/
theorem toNat_ofNat_fine (f : Int) :
    ((BitVec.ofNat 8 (if crosses f then 128 else f.toNat)).toNat : Int) = if crosses f then 128 else f := by
  cases h : crosses f with
  | true => rfl
  | false =>
    have hband := crosses_eq_false_iff.mp h
    simp only [Bool.false_eq_true, if_false, BitVec.toNat_ofNat]
    omega

/-- A TUNE off its target moves the fine wiper by one. -/
theorem tuneMoved_of_ne (h : s.freq.toNat ≠ s.target.toNat) :
    ∃ t, exec .tune s = .next t ∧ TuneMoved (steppedFine s) s t := by
  refine ⟨_, exec_tune_of_ne h, ?_⟩
  rw [tuneFrames_eq, relayMove, tuneCarry_eq]
  constructor
  case fine => exact toNat_ofNat_fine _
  case frames =>
    rw [complete_frames, List.length_append, length_moveFrames]
    simp only [ofNat_carriedCoarse_eq_iff]
  case cross => exact tuneResult_cross ..
  case clamp => exact tuneResult_clamp ..
  all_goals rfl

/-- What a TUNE can do. -/
theorem exec_tune_cases (h : exec .tune s = .next t) :
    (s.freq.toNat = s.target.toNat ∧ t = complete 0 s) ∨
    (s.freq.toNat ≠ s.target.toNat ∧ TuneMoved (steppedFine s) s t) := by
  by_cases hfreq : s.freq.toNat = s.target.toNat
  · cases (exec_tune_of_eq hfreq).symm.trans h
    exact .inl ⟨hfreq, rfl⟩
  · obtain ⟨u, hu, hmoved⟩ := tuneMoved_of_ne hfreq
    cases hu.symm.trans h
    exact .inr ⟨hfreq, hmoved⟩

theorem TuneMoved.fine_of_cross (h : TuneMoved f s t) (hcross : crosses f = true) : t.wiper.fine = 128 := by
  have hfine := h.fine
  rw [if_pos hcross] at hfine
  exact BitVec.eq_of_toNat_eq (Int.ofNat_inj.mp hfine)

theorem TuneMoved.fine_of_band (h : TuneMoved f s t) (hband : crosses f = false) : (t.wiper.fine.toNat : Int) = f := by
  rw [h.fine, hband, if_neg Bool.false_ne_true]

theorem TuneMoved.fine_mem_band (h : TuneMoved f s t) : 28 ≤ t.wiper.fine.toNat ∧ t.wiper.fine.toNat ≤ 228 := by
  cases hc : crosses f with
  | true => rw [h.fine_of_cross hc]; decide
  | false =>
    have hf := h.fine_of_band hc
    have hband := crosses_eq_false_iff.mp hc
    omega

theorem TuneMoved.coarse_of_kept (h : TuneMoved f s t)
    (hkept : carriedCoarse s.params f s.wiper.coarse.toNat = s.wiper.coarse.toNat) :
    t.wiper.coarse = s.wiper.coarse := by
  rw [h.coarse, ofNat_carriedCoarse_eq_iff, hkept]

theorem TuneMoved.frames_of_kept (h : TuneMoved f s t)
    (hkept : carriedCoarse s.params f s.wiper.coarse.toNat = s.wiper.coarse.toNat) :
    t.frames.length = s.frames.length + 1 := by
  rw [h.frames, if_pos hkept]

theorem TuneMoved.coarse_lt (h : TuneMoved f s t) (hlt : s.wiper.coarse.toNat < stepsOf s.params .coarse) :
    t.wiper.coarse.toNat < stepsOf s.params .coarse := by
  rw [h.coarse, BitVec.toNat_ofNat]
  exact (Nat.mod_le _ _).trans_lt (carriedCoarse_lt hlt)

/-- A TUNE that changes the coarse wiper crosses the guard and moves it by one. -/
theorem carry_of_coarse_ne (h : exec .tune s = .next t) (hne : t.wiper.coarse ≠ s.wiper.coarse) :
    t.wiper.fine = 128 ∧ (t.wiper.coarse + 1 = s.wiper.coarse ∨ t.wiper.coarse = s.wiper.coarse + 1) := by
  obtain ⟨-, rfl⟩ | ⟨-, hmoved⟩ := exec_tune_cases h
  · exact absurd rfl hne
  obtain hkept | ⟨hcross, hone⟩ := carriedCoarse_cases s.params (steppedFine s) s.wiper.coarse.toNat
  · exact absurd (hmoved.coarse_of_kept hkept) hne
  · refine ⟨hmoved.fine_of_cross hcross, hone.imp (fun hdown => ?_) fun hup => ?_⟩
    · rw [hmoved.coarse]
      bv_omega
    · rw [hmoved.coarse, hup]
      bv_omega

end Sys2Proof.Machine

namespace Sys2Proof.Proofs

open Sys2Proof.Machine Sys2Proof.Claims

/-- Settles O39: STGT's words are `formatIWords_of_encode`; the check of its operand splits its meaning. -/
theorem stgtSetsTheTarget : Obligations.StgtSetsTheTarget := by
  refine ⟨formatIWords_of_encode (op := 0x9) (by decide) fun _ => rfl, fun s v => ⟨fun h => ?_, fun h => ?_⟩⟩
  · rw [exec_stgt_of_legal h, BitVec.ofNat_toNat, BitVec.ofNat_toNat]
    rfl
  · exact exec_stgt_of_illegal h s

/-- Settles O40: TUNE's one word is `formatNWords_of_encode`, its next state `exec_tune`. -/
theorem tuneStepsAndCarries : Obligations.TuneStepsAndCarries :=
  ⟨formatNWords_of_encode (.inr (.inr (.inr rfl))) rfl, exec_tune⟩

/-- Settles O41: without a change TUNE only completes; with one, `TuneMoved` gives the wipers on both sides of the guard
check. -/
theorem guardCheckOnlyAfterAChange : Obligations.GuardCheckOnlyAfterAChange := by
  refine fun s => ⟨fun heq => ⟨_, exec_tune_of_eq heq, rfl, rfl⟩, fun hne f hf => ?_⟩
  obtain ⟨t, ht, hmoved⟩ := tuneMoved_of_ne hne
  obtain rfl : steppedFine s = f := hf.symm
  refine ⟨t, ht, fun hlo hhi => ?_, fun hout => ?_⟩
  · have hband := crosses_eq_false_iff.mpr ⟨hlo, hhi⟩
    exact ⟨hmoved.fine_of_band hband, hmoved.coarse_of_kept (carriedCoarse_of_band hband)⟩
  · have hcross := crosses_iff.mpr hout
    exact ⟨hmoved.fine_of_cross hcross, hmoved.cross.trans hcross⟩

end Sys2Proof.Proofs
end

section
/-!
PROOF. TUNE after TUNE on one side of the target (43_tuner.md R189, R190), both sides at once: from mid-scale the guard
is 100 steps away, the 101st TUNE crosses it, and where the coarse wiper does not follow the fine one saw-tooths.
-/
namespace Sys2Proof.Machine

open Sys2Proof.Claims

variable {s t u : State} {d : Int} {freq : Word} {fs : List Word} {n : Nat}

/-- A FREQ that moves the fine wiper by `d`: down above the target, up below it. -/
def Pulls (d : Int) (target : Half) (freq : Word) : Prop :=
  (d = -1 ∧ target.toNat < freq.toNat) ∨ (d = 1 ∧ freq.toNat < target.toNat)

theorem exec_tune_of_pulls (h : Pulls d s.target freq) :
    ∃ t, exec .tune { s with freq := freq } = .next t ∧ TuneMoved (s.wiper.fine.toNat + d) s t := by
  have hne : freq.toNat ≠ s.target.toNat := by
    obtain ⟨-, h⟩ | ⟨-, h⟩ := h <;> omega
  have hstep : steppedFine { s with freq := freq } = s.wiper.fine.toNat + d := by
    obtain ⟨rfl, h⟩ | ⟨rfl, h⟩ := h
    · rw [steppedFine, if_pos h]
    · rw [steppedFine, if_neg h.asymm]
  obtain ⟨t, ht, hmoved⟩ := tuneMoved_of_ne (s := { s with freq := freq }) hne
  rw [hstep] at hmoved
  exact ⟨t, ht, { hmoved with }⟩

theorem tunesAt_concat (h : tunesAt fs s = some t) (hlast : exec .tune { t with freq := freq } = .next u) :
    tunesAt (fs ++ [freq]) s = some u := by
  induction fs generalizing s with
  | nil =>
    cases h
    simp only [List.nil_append, tunesAt, hlast]
  | cons freq' fs ih =>
    rw [tunesAt, exec_tune] at h
    rw [List.cons_append, tunesAt, exec_tune]
    exact ih h

/-! ## The saw-tooth -/

/-- `t` is `s`, its fine wiper at mid-scale, after `n` TUNEs that move it by `d`, none of which moved the coarse wiper:
every 101st found the fine wiper at the guard and put it back to mid-scale. -/
structure SawTooth (d : Int) (n : Nat) (s t : State) : Prop where
  params : t.params = s.params
  target : t.target = s.target
  fine   : (t.wiper.fine.toNat : Int) = 128 + d * (n % 101 : Nat)
  coarse : t.wiper.coarse = s.wiper.coarse
  pwm    : t.wiper.pwm = s.wiper.pwm
  frames : t.frames.length = s.frames.length + n
  clamp  : n ≠ 0 → (t.res.getLsbD 3 = true ↔ n % 101 = 0)

theorem SawTooth.refl (d : Int) (h : s.wiper.fine = 128) : SawTooth d 0 s s where
  params := rfl
  target := rfl
  fine   := by rw [h]; simp
  coarse := rfl
  pwm    := rfl
  frames := rfl
  clamp  := fun h => absurd rfl h

/-- The place beyond the guard, 101 steps from mid-scale. -/
theorem SawTooth.fine_beyond (h : SawTooth d n s t) (hn : n % 101 = 100) :
    (t.wiper.fine.toNat : Int) + d = 128 + d * 101 := by
  rw [h.fine, hn]
  push_cast
  ring

/-- On either side the guard is 100 steps from mid-scale. -/
theorem SawTooth.crosses_iff (h : SawTooth d n s t) (hpull : Pulls d s.target freq) :
    crosses (t.wiper.fine.toNat + d) = true ↔ n % 101 = 100 := by
  rw [Machine.crosses_iff, h.fine]
  obtain ⟨rfl, -⟩ | ⟨rfl, -⟩ := hpull <;> omega

/-- One more TUNE on the same side: a step inside the band, or a crossing that the coarse wiper does not follow. -/
theorem SawTooth.next (h : SawTooth d n s t) (hpull : Pulls d s.target freq)
    (hmoved : TuneMoved (t.wiper.fine.toNat + d) t u)
    (hkept : n < 100 ∨ carriedCoarse s.params (128 + d * 101) s.wiper.coarse.toNat = s.wiper.coarse.toNat) :
    SawTooth d (n + 1) s u := by
  have hcross := h.crosses_iff hpull
  have hsame : carriedCoarse t.params (t.wiper.fine.toNat + d) t.wiper.coarse.toNat = t.wiper.coarse.toNat := by
    cases hc : crosses (t.wiper.fine.toNat + d) with
    | false => exact carriedCoarse_of_band hc
    | true =>
      have hn : n % 101 = 100 := hcross.mp hc
      rw [h.fine_beyond hn, h.params, h.coarse]
      exact hkept.resolve_left (by omega)
  constructor
  case params => exact hmoved.params.trans h.params
  case target => exact hmoved.target.trans h.target
  case coarse => exact (hmoved.coarse_of_kept hsame).trans h.coarse
  case pwm => exact hmoved.pwm.trans h.pwm
  case frames => rw [hmoved.frames_of_kept hsame, h.frames, Nat.add_assoc]
  case clamp =>
    intro _
    rw [hmoved.clamp, hsame, decide_eq_true rfl, Bool.and_true, hcross]
    omega
  case fine =>
    rw [hmoved.fine]
    split_ifs with hc
    · have hn : (n + 1) % 101 = 0 := by have := hcross.mp hc; omega
      rw [hn]
      simp
    · have hn : (n + 1) % 101 = n % 101 + 1 := by have := mt hcross.mpr hc; omega
      rw [hn, h.fine]
      push_cast
      ring

/-- TUNEs on one side from mid-scale, up to the guard, or any number of them where the coarse wiper is at its rail. -/
theorem sawTooth_of_tunes (hfine : s.wiper.fine = 128) (hpull : ∀ freq ∈ fs, Pulls d s.target freq)
    (hkept : fs.length ≤ 100 ∨ carriedCoarse s.params (128 + d * 101) s.wiper.coarse.toNat = s.wiper.coarse.toNat) :
    ∃ t, tunesAt fs s = some t ∧ SawTooth d fs.length s t := by
  induction fs using List.reverseRecOn with
  | nil => exact ⟨s, rfl, .refl d hfine⟩
  | append_singleton fs freq ih =>
    rw [List.length_append, List.length_singleton] at hkept ⊢
    obtain ⟨hinit, hlast⟩ := List.forall_mem_append.mp hpull
    have hlast : Pulls d s.target freq := hlast freq (List.mem_singleton_self freq)
    obtain ⟨t, ht, htooth⟩ := ih hinit (hkept.imp_left (by omega))
    obtain ⟨u, hu, hmoved⟩ := exec_tune_of_pulls (htooth.target.symm ▸ hlast)
    exact ⟨u, tunesAt_concat ht hu, htooth.next hlast hmoved (hkept.imp_left (by omega))⟩

/-! ## The crossing -/

/-- The 101st TUNE on one side from mid-scale crosses the guard; off the rail it carries, with the coarse frame. -/
theorem carry_of_101_tunes {k1 : Nat} (hfine : s.wiper.fine = 128) (hpull : ∀ freq ∈ fs, Pulls d s.target freq)
    (hlen : fs.length = 101) (hcarry : carriedCoarse s.params (128 + d * 101) s.wiper.coarse.toNat = k1)
    (hbyte : k1 < 256) (hne : k1 ≠ s.wiper.coarse.toNat) :
    ∃ t, tunesAt fs s = some t ∧ t.wiper.fine = 128 ∧ t.wiper.coarse.toNat = k1 ∧
      t.frames.length = s.frames.length + 102 := by
  obtain rfl | ⟨gs, freq, rfl⟩ := List.eq_nil_or_concat' fs
  · cases hlen
  have hgs : gs.length = 100 := by simpa using hlen
  obtain ⟨hinit, hlast⟩ := List.forall_mem_append.mp hpull
  have hlast : Pulls d s.target freq := hlast freq (List.mem_singleton_self freq)
  obtain ⟨t, ht, htooth⟩ := sawTooth_of_tunes hfine hinit (.inl hgs.le)
  rw [hgs] at htooth
  obtain ⟨u, hu, hmoved⟩ := exec_tune_of_pulls (htooth.target.symm ▸ hlast)
  refine ⟨u, tunesAt_concat ht hu, hmoved.fine_of_cross ((htooth.crosses_iff hlast).mpr rfl), ?_, ?_⟩
  · rw [hmoved.coarse, htooth.fine_beyond rfl, htooth.params, htooth.coarse, hcarry, BitVec.toNat_ofNat,
      Nat.mod_eq_of_lt hbyte]
  · rw [hmoved.frames, htooth.fine_beyond rfl, htooth.params, htooth.coarse, hcarry, if_neg hne, htooth.frames]

section Carry

variable {p : Params} {k0 : Nat}

theorem carriedCoarse_down : carriedCoarse p (128 + -1 * 101) k0 = k0 - 1 := by
  rw [carriedCoarse, if_pos (by decide)]
  split_ifs <;> omega

theorem carriedCoarse_up (h : k0 + 1 < stepsOf p .coarse) : carriedCoarse p (128 + 1 * 101) k0 = k0 + 1 := by
  rw [carriedCoarse, if_neg (by decide), if_pos (by decide), if_pos (by omega)]

theorem carriedCoarse_up_of_rail (h : k0 = stepsOf p .coarse - 1) : carriedCoarse p (128 + 1 * 101) k0 = k0 := by
  rw [carriedCoarse, if_neg (by decide), if_pos (by decide), if_neg (by omega)]

end Carry

end Sys2Proof.Machine

namespace Sys2Proof.Proofs

open Sys2Proof.Machine Sys2Proof.Claims

/-- Settles O43: from mid-scale the guard is 100 steps away (`sawTooth_of_tunes`), and the 101st TUNE crosses it and
carries (`carry_of_101_tunes`), on either side. -/
theorem oneCarryPerCrossing : Obligations.OneCarryPerCrossing := by
  refine ⟨fun s t => carry_of_coarse_ne, fun s fs hfine hside hrail => ?_, fun s fs hfine hside hsteps hrail => ?_⟩
  · have hpull : ∀ freq ∈ fs, Pulls (-1) s.target freq := fun freq hf => .inl ⟨rfl, hside freq hf⟩
    refine ⟨fun hlen => ?_, fun hlen =>
      carry_of_101_tunes hfine hpull hlen carriedCoarse_down (by omega) (by omega)⟩
    obtain ⟨t, ht, htooth⟩ := sawTooth_of_tunes hfine hpull (.inl hlen)
    have hplace := htooth.fine
    exact ⟨t, ht, by omega, htooth.coarse, htooth.frames⟩
  · have hpull : ∀ freq ∈ fs, Pulls 1 s.target freq := fun freq hf => .inr ⟨rfl, hside freq hf⟩
    refine ⟨fun hlen => ?_, fun hlen =>
      carry_of_101_tunes hfine hpull hlen (carriedCoarse_up hrail) (by omega) (by omega)⟩
    obtain ⟨t, ht, htooth⟩ := sawTooth_of_tunes hfine hpull (.inl hlen)
    have hplace := htooth.fine
    exact ⟨t, ht, by omega, htooth.coarse, htooth.frames⟩

/-- Settles O44: at its rail the coarse wiper does not follow a crossing, so `sawTooth_of_tunes` holds for any number of
TUNEs. -/
theorem railSaturationSawTooth : Obligations.RailSaturationSawTooth := by
  refine fun s fs hfine => ⟨fun hside hrail => ?_, fun hside hrail => ?_⟩
  · have hkept : carriedCoarse s.params (128 + -1 * 101) s.wiper.coarse.toNat = s.wiper.coarse.toNat := by
      rw [carriedCoarse_down, hrail]
      rfl
    obtain ⟨t, ht, htooth⟩ := sawTooth_of_tunes hfine (fun freq hf => .inl ⟨rfl, hside freq hf⟩) (.inr hkept)
    have hplace := htooth.fine
    exact ⟨t, ht, by omega, htooth.coarse, htooth.pwm, htooth.frames,
      fun hne => htooth.clamp (mt List.length_eq_zero_iff.mp hne)⟩
  · have hkept := carriedCoarse_up_of_rail hrail
    obtain ⟨t, ht, htooth⟩ := sawTooth_of_tunes hfine (fun freq hf => .inr ⟨rfl, hside freq hf⟩) (.inr hkept)
    have hplace := htooth.fine
    exact ⟨t, ht, by omega, htooth.coarse, htooth.pwm, htooth.frames,
      fun hne => htooth.clamp (mt List.length_eq_zero_iff.mp hne)⟩

end Sys2Proof.Proofs
end

section
/-!
PROOF. The wipers in their range in every run from reset (10_state.md R37, 43_tuner.md R188): every event keeps each of
them below STEPS.
-/
namespace Sys2Proof.Safety

open Sys2Proof.Machine Sys2Proof.Claims

/-- WIPER[ch] is below STEPS[ch], and the parameters are legal: two clauses of `Inv` that every step keeps together. -/
structure WipersInRange (s : State) : Prop where
  legal : s.params.Legal
  wiper : ∀ ch, (chGet s.wiper ch).toNat < stepsOf s.params ch

section Legal

variable {p : Params}

theorem stepsOf_pos (h : p.Legal) (ch : Channel) : 0 < stepsOf p ch := by
  obtain ⟨-, ⟨hpwm, -⟩, ⟨hcoarse, -⟩, -⟩ := h
  cases ch with
  | pwm => exact hpwm
  | coarse => exact hcoarse
  | fine => exact Nat.zero_lt_succ _

theorem stepsOf_le (h : p.Legal) (ch : Channel) : stepsOf p ch ≤ 256 := by
  obtain ⟨-, ⟨-, hpwm⟩, ⟨-, hcoarse⟩, -⟩ := h
  cases ch with
  | pwm => exact hpwm
  | coarse => exact hcoarse
  | fine => exact le_rfl

theorem r2w_lt (h : p.Legal) (ch : Channel) (r : Nat) : r2w p ch r < stepsOf p ch :=
  (Nat.min_le_right _ _).trans_lt (Nat.sub_one_lt_of_lt (stepsOf_pos h ch))

end Legal

variable {s t : State}

theorem WipersInRange.congr (h : WipersInRange s) (hparams : t.params = s.params) (hwiper : t.wiper = s.wiper) :
    WipersInRange t :=
  ⟨hparams ▸ h.legal, by rw [hparams, hwiper]; exact h.wiper⟩

theorem WipersInRange.reset {p : Params} (h : p.Legal) : WipersInRange (State.resetWith p) := by
  refine ⟨h, fun ch => ?_⟩
  obtain ⟨-, -, -, -, -, -, hpwm, hcoarse, -⟩ := h
  cases ch with
  | pwm => exact hpwm
  | coarse => exact hcoarse
  | fine => exact (by decide : 128 < 256)

/-- A wiper below STEPS[ch] fits in the byte of its frame. -/
theorem WipersInRange.sendWiper {ch : Channel} {w : Nat} (h : WipersInRange s) (hw : w < stepsOf s.params ch) :
    WipersInRange (sendWiper ch (BitVec.ofNat 8 w) s) := by
  refine ⟨h.legal, fun ch' => ?_⟩
  rw [sendWiper_wiper, sendWiper_params, chGet_chSet]
  split_ifs with hch
  · rw [hch, BitVec.toNat_ofNat]
    exact (Nat.mod_le _ _).trans_lt hw
  · exact h.wiper ch'

theorem WipersInRange.tuneMoved {f : Int} (h : WipersInRange s) (hmoved : TuneMoved f s t) : WipersInRange t := by
  refine ⟨hmoved.params ▸ h.legal, fun ch => ?_⟩
  rw [hmoved.params]
  cases ch with
  | pwm => rw [chGet, hmoved.pwm]; exact h.wiper .pwm
  | coarse => exact hmoved.coarse_lt (h.wiper .coarse)
  | fine => exact t.wiper.fine.isLt

theorem WipersInRange.checked {legal : Bool} {code : CmdError} {s' : State} (h : WipersInRange s)
    (hchecked : checked legal code s s' = .next t) (hs' : legal = true → WipersInRange s') : WipersInRange t := by
  obtain ⟨hlegal, rfl⟩ | ⟨-, rfl⟩ := checked_eq_next hchecked
  · exact hs' hlegal
  · exact h.congr rfl rfl

/-- The shared micro-steps S0 to S4 write no wiper. -/
theorem WipersInRange.snapshotStep {c : Word} {finish : State → State} (h : WipersInRange s)
    (hfinish : WipersInRange (finish s)) : WipersInRange (snapshotStep c finish s) := by
  cases hk : phaseOf s.seq with
  | s0 => rw [snapshotStep_s0 hk]; exact h.congr rfl rfl
  | s1 => rw [snapshotStep_s1 hk]; exact h.congr rfl rfl
  | s2 => rw [snapshotStep_s2 hk]; exact h.congr rfl rfl
  | s3 => rw [snapshotStep_s3 hk]; exact h.congr rfl rfl
  | s4 => rw [snapshotStep_s4 hk]; exact h.congr rfl rfl
  | s5 => rwa [snapshotStep_s5 hk]

/-- The micro-steps of the commands: PSET, PSETR and TUNE alone send a wiper. -/
theorem WipersInRange.exec {i : Instr} (h : WipersInRange s) (hexec : exec i s = .next t) : WipersInRange t := by
  cases i with
  | snap =>
    cases hexec
    exact h.snapshotStep (h.congr rfl rfl)
  | etick =>
    cases hexec
    exact h.snapshotStep (h.congr rfl rfl)
  | eqry =>
    cases hexec
    exact h.congr rfl rfl
  | pset ch w =>
    refine h.checked hexec fun hw => (h.sendWiper (wiperLegal_iff.mp hw)).congr rfl ?_
    rw [complete_wiper, BitVec.ofNat_toNat]
  | psetr ch r => exact h.checked hexec fun _ => (h.sendWiper (r2w_lt h.legal ch r.toNat)).congr rfl rfl
  | pr2w | pw2r | stgt => exact h.checked hexec fun _ => h.congr rfl rfl
  | tune =>
    obtain ⟨-, rfl⟩ | ⟨-, hmoved⟩ := exec_tune_cases hexec
    · exact h.congr rfl rfl
    · exact h.tuneMoved hmoved
  | rdreg idx =>
    simp only [Machine.exec, execRdreg] at hexec
    split at hexec <;> cases hexec <;> exact h.congr rfl rfl

theorem WipersInRange.fire {ev : Event} (h : WipersInRange s) : WipersInRange (fire ev s) := by
  cases ev with
  | pulseIn e => exact h.congr (pulse_params s) (pulse_wiper s)
  | accept =>
    simp only [Machine.fire, acceptCmd]
    split <;> exact h.congr rfl rfl
  | rst level =>
    cases level with
    | false => exact (WipersInRange.reset h.legal).congr rfl rfl
    | true => exact h.congr rfl rfl
  | service | seq | host | device => exact h.congr rfl rfl

theorem WipersInRange.seqStep (h : WipersInRange s) (hstep : seqStep s = .next t) : WipersInRange t := by
  obtain ⟨-, heq⟩ | ⟨c, k, code, -, -, heq⟩ | ⟨c, k, i, -, -, heq⟩ := seqStep_cases s <;> rw [heq] at hstep
  · cases hstep
    exact h
  · cases hstep
    exact h.congr rfl rfl
  · exact h.exec hstep

theorem WipersInRange.react {ev : Event} (h : WipersInRange s) (hreact : react ev s = .next t) : WipersInRange t := by
  obtain ⟨-, heq⟩ | ⟨-, -, heq⟩ | ⟨-, -, heq⟩ := react_cases ev s <;> rw [heq] at hreact
  · cases hreact
    exact h
  · exact h.seqStep hreact
  · cases hreact
    exact h.fire

/-- The wipers are in their range in every state of every run from reset. -/
theorem WipersInRange.of_history {snaps : List Half} (run : History snaps s) : WipersInRange s := by
  induction run with
  | reset p agenda legal => exact (WipersInRange.reset legal).congr rfl rfl
  | step run moved ih => exact (ih.congr (dropEvent_params _) (dropEvent_wiper _)).react moved

end Sys2Proof.Safety

namespace Sys2Proof.Proofs

open Sys2Proof.Machine Sys2Proof.Claims Sys2Proof.Safety

/-- Settles O42: the wipers of a run are in their range (`WipersInRange.of_history`); a TUNE leaves the fine wiper,
where it changes it, in the band (`TuneMoved.fine_mem_band`), and the coarse one below STEPS (`TuneMoved.coarse_lt`). -/
theorem tuneKeepsTheWipersInRange : Obligations.TuneKeepsTheWipersInRange := by
  refine ⟨fun snaps s run => ?_, fun s t h hne => ?_, fun s t hlt _ h => ?_⟩
  · have hcoarse : s.wiper.coarse.toNat < stepsOf s.params .coarse := (WipersInRange.of_history run).wiper .coarse
    exact ⟨Nat.le_of_lt_succ s.wiper.fine.isLt, Nat.le_sub_one_of_lt hcoarse⟩
  · obtain ⟨-, rfl⟩ | ⟨-, hmoved⟩ := exec_tune_cases h
    · exact absurd rfl hne
    · exact hmoved.fine_mem_band
  · obtain ⟨-, rfl⟩ | ⟨-, hmoved⟩ := exec_tune_cases h
    · exact hlt
    · exact hmoved.coarse_lt hlt

end Sys2Proof.Proofs
end

section
/-!
PROOF. RDREG (44_register_access.md R200, R201): STATUS as a number, the index map as a map of numbers, the command on
both sides of the map.
-/
namespace Sys2Proof.Machine

open Sys2Proof.Claims

/-! ## STATUS as a number (10_state.md R43) -/

theorem toNat_append_eq_add {m n : Nat} (x : BitVec m) (y : BitVec n) :
    (x ++ y).toNat = 2 ^ n * x.toNat + y.toNat := by
  rw [BitVec.toNat_append, Nat.shiftLeft_eq, Nat.mul_comm, Nat.two_pow_add_eq_or_of_lt y.isLt]

theorem errCode_toNat (err : Option CmdError) : (errCode err).toNat = codeNum err := by
  rcases err with _ | code
  · rfl
  · cases code <;> rfl

theorem statusWord_toNat (s : State) : (statusWord s).toNat = statusNum s := by
  simp only [statusWord, bit, statusNum, toNat_append_eq_add, BitVec.ofNat_eq_ofNat, BitVec.toNat_ofNat,
    BitVec.toNat_ofBool, errCode_toNat]
  omega

theorem ofNat_statusNum (s : State) : BitVec.ofNat 32 (statusNum s) = statusWord s := by
  rw [← statusWord_toNat, BitVec.ofNat_toNat, BitVec.setWidth_eq]

/-! ## The index map (44_register_access.md R200) -/

/-- The map as numbers and the model's map have the same indices, and at each of them the same word. Past the twelve
fixed indices both ask for the range of the ring. -/
theorem map_registerNum (s : State) (idx : Imm) :
    (registerNum s idx.toNat).map (BitVec.ofNat 32) = (regAt s.params idx).map (readReg s) := by
  unfold regAt
  split
  case h_13 =>
    unfold registerNum
    split
    case h_13 => split_ifs <;> simp [readReg]
    all_goals contradiction
  all_goals
    rename_i hidx
    simp [hidx, registerNum, readReg, chGet, ofNat_statusNum]

/-! ## RDREG (44_register_access.md R201) -/

variable {s : State} {idx : Imm}

theorem exec_rdreg_of_some {v : Nat} (h : registerNum s idx.toNat = some v) :
    exec (.rdreg idx) s = .next (complete (BitVec.ofNat 32 v) s) := by
  have hmap : (regAt s.params idx).map (readReg s) = some (BitVec.ofNat 32 v) := by rw [← map_registerNum, h]; rfl
  obtain ⟨r, hreg, hread⟩ := Option.map_eq_some_iff.mp hmap
  simp only [exec, execRdreg, hreg, hread]

theorem exec_rdreg_of_none (h : registerNum s idx.toNat = none) :
    exec (.rdreg idx) s = .next (raiseErr .operandRange s) := by
  have hmap : (regAt s.params idx).map (readReg s) = none := by rw [← map_registerNum, h]; rfl
  exact exec_of_not_wellFormed (i := .rdreg idx) (by rw [Instr.wellFormed, Option.map_eq_none_iff.mp hmap]; rfl)

end Sys2Proof.Machine

namespace Sys2Proof.Proofs

open Sys2Proof.Machine Sys2Proof.Claims

/-- Settles O46: RDREG's words are `formatIWords_of_encode`; its meaning splits at the edge of the index map, which
`map_registerNum` carries over to the model's. -/
theorem rdregReadsTheIndexMap : Obligations.RdregReadsTheIndexMap :=
  ⟨formatIWords_of_encode (op := 0xA) (by decide) fun _ => rfl,
    fun _ _ => ⟨fun _ h => exec_rdreg_of_some h, exec_rdreg_of_none⟩⟩

end Sys2Proof.Proofs
end

section
/-!
PROOF. The decoder on the words of the spec (30_encoding.md section 2) and on the words that the assembler's lines give
(section 5, R90, R91).
-/
namespace Sys2Proof.Machine

open Sys2Proof.Claims

/-! ## The word of a line (30_encoding.md R90) -/

variable {op ch imm : Nat}

/-- The fields of a line do not overlap: the word that joins them is their sum. -/
theorem lineWord_of_lt (hch : ch < 4) (himm : imm < 2 ^ 24) : lineWord op ch imm = some (word op ch imm) := by
  have hlow : ch <<< 26 < 2 ^ 28 := by rw [Nat.shiftLeft_eq]; omega
  have hjoin : op <<< 28 ||| ch <<< 26 ||| imm = op * 2 ^ 28 + ch * 2 ^ 26 + imm := by
    have hfields : op <<< 28 + ch <<< 26 = (op * 4 + ch) <<< 26 := by
      simp only [Nat.shiftLeft_eq]
      ring
    rw [← Nat.shiftLeft_add_eq_or_of_lt hlow, hfields, ← Nat.shiftLeft_add_eq_or_of_lt (himm.trans (by decide)),
      Nat.shiftLeft_eq]
    ring
  rw [lineWord, if_pos himm, hjoin, word]

theorem lineWord_of_le (h : 2 ^ 24 ≤ imm) : lineWord op ch imm = none :=
  if_neg (not_lt.mpr h)

/-! ## The channel of a line -/

variable {c : Channel} {a : AsmChannel}

theorem chNum_lt (c : Channel) : chNum c < 3 := by
  cases c <;> decide

/-- A channel's name and its number say the same. -/
theorem asmChannelNumber_of_denotes (h : a = .name c ∨ a = .number (chNum c)) :
    asmChannelNumber a = some (chNum c) := by
  obtain rfl | rfl := h
  · cases c <;> rfl
  · exact if_pos (chNum_lt c)

theorem asmChannelNumber_of_le {n : Nat} (h : 3 ≤ n) : asmChannelNumber (.number n) = none :=
  if_neg (not_lt.mpr h)

theorem lineWordC_of_le (h : 2 ^ 24 ≤ imm) : lineWordC op a imm = none := by
  simp only [lineWordC, lineWord_of_le h, Option.bind_fun_none]

theorem lineWordC_of_channel_le {n : Nat} (h : 3 ≤ n) : lineWordC op (.number n) imm = none := by
  rw [lineWordC, asmChannelNumber_of_le h, Option.bind_none]

/-! ## Lines with an operand, and what their words decode to -/

/-- A format C line, its channel given in either form, assembles to the word that decodes to its command. -/
theorem assembled_formatC {op : BitVec 4} {mk : Channel → Imm → Instr} (hop : formatC op.toNat)
    (henc : ∀ c v, encode (mk c v) = packWord op (channelCode c) v) (ha : a = .name c ∨ a = .number (chNum c))
    (himm : imm < 2 ^ 24) :
    (lineWordC op.toNat a imm).map (fun w => [w]) = some [word op.toNat (chNum c) imm] ∧
      decode (word op.toNat (chNum c) imm) = .ok (mk c (BitVec.ofNat 24 imm)) := by
  obtain ⟨hdecode, -⟩ := formatCWords_of_encode hop henc
  have hword := hdecode c (BitVec.ofNat 24 imm)
  rw [BitVec.toNat_ofNat, Nat.mod_eq_of_lt himm] at hword
  refine ⟨?_, hword⟩
  rw [lineWordC, asmChannelNumber_of_denotes ha, Option.bind_some, lineWord_of_lt ((chNum_lt c).trans (by decide)) himm,
    Option.map_some]

/-- A format I line assembles to the word that decodes to its command. -/
theorem assembled_formatI {op : BitVec 4} {mk : Imm → Instr} (hop : formatI op.toNat)
    (henc : ∀ v, encode (mk v) = packWord op 0 v) (himm : imm < 2 ^ 24) :
    (lineWord op.toNat 0 imm).map (fun w => [w]) = some [word op.toNat 0 imm] ∧
      decode (word op.toNat 0 imm) = .ok (mk (BitVec.ofNat 24 imm)) := by
  obtain ⟨hdecode, -⟩ := formatIWords_of_encode hop henc
  have hword := hdecode (BitVec.ofNat 24 imm)
  rw [BitVec.toNat_ofNat, Nat.mod_eq_of_lt himm] at hword
  refine ⟨?_, hword⟩
  rw [lineWord_of_lt (by decide) himm, Option.map_some]

/-- RDWIPER reads the index of its channel's wiper (R91). -/
theorem assemble_rdwiper (ha : a = .name c ∨ a = .number (chNum c)) :
    assemble (.rdwiper a) = some [word 0xA 0 (0x06 + chNum c)] := by
  have := chNum_lt c
  rw [assemble, asmChannelNumber_of_denotes ha, Option.bind_some, lineWord_of_lt (by decide) (by omega), Option.map_some]

theorem decode_of_encode_eq {i : Instr} {w : Word} (h : encode i = w) : decode w = .ok i :=
  h ▸ decode_encode i

end Sys2Proof.Machine

namespace Sys2Proof.Proofs

open Sys2Proof.Machine Sys2Proof.Claims

/-- Settles O1: a command's word is its fields packed, and the decoder reads each field back (`decode_encode`). -/
theorem decodeOfEncodeIsTheCommand : Obligations.DecodeOfEncodeIsTheCommand :=
  decode_encode

/-- Settles O4: each word is the encoding of its command; of the last two, one has a reserved field set and the other
has CH = 3. -/
theorem wordsOfTheSpecDecode : Obligations.WordsOfTheSpecDecode :=
  ⟨decode_of_encode_eq rfl, decode_of_encode_eq rfl, decode_of_encode_eq rfl, decode_of_encode_eq rfl,
    decode_of_encode_eq rfl, decode_of_encode_eq rfl, decode_of_encode_eq rfl, decode_of_encode_eq rfl,
    decode_of_encode_eq rfl, decode_of_encode_eq rfl, decode_of_reservedSet (by decide) (by decide) (by decide),
    decode_of_chOf_three (by decide) (by decide) (by decide)⟩

/-- Settles O5: the lines without an operand are their one word; those of formats C and I are `assembled_formatC` and
`assembled_formatI`; an immediate or a channel number out of range gives no word. -/
theorem assembledLinesDecode : Obligations.AssembledLinesDecode := by
  refine ⟨⟨rfl, decode_encode .snap⟩, ⟨rfl, decode_encode .etick⟩, ⟨rfl, decode_encode .eqry⟩,
    ⟨rfl, decode_encode .tune⟩, fun ch a imm ha himm => ⟨?_, ?_, ?_, ?_⟩, fun imm himm => ⟨?_, ?_⟩,
    fun a imm himm => ?_, fun n imm hn => ?_, rfl, fun ch a => assemble_rdwiper, rfl⟩
  · exact assembled_formatC (op := 0x4) (by decide) (fun _ _ => rfl) ha himm
  · exact assembled_formatC (op := 0x5) (by decide) (fun _ _ => rfl) ha himm
  · exact assembled_formatC (op := 0x6) (by decide) (fun _ _ => rfl) ha himm
  · exact assembled_formatC (op := 0x7) (by decide) (fun _ _ => rfl) ha himm
  · exact assembled_formatI (op := 0x9) (by decide) (fun _ => rfl) himm
  · exact assembled_formatI (op := 0xA) (by decide) (fun _ => rfl) himm
  · simp only [assemble, lineWordC_of_le himm, lineWord_of_le himm, Option.map_none, and_self]
  · simp only [assemble, lineWordC_of_channel_le hn, asmChannelNumber_of_le hn, Option.map_none, Option.bind_none,
      and_self]

end Sys2Proof.Proofs
end

section
/-!
PROOF. The window of the ticks under every step (41_frequency_estimator.md R131, R134).
-/
namespace Sys2Proof.Proofs

open Sys2Proof.Machine Sys2Proof.Safety

/-- Settles O24: at reset the window is that of no snapshot, and `Window.step` carries it over an event: only S5 of ETICK
and reset write the estimator's registers. -/
theorem windowFollowsTheTicks : Obligations.WindowFollowsTheTicks :=
  ⟨fun p _ _ => (Window.reset p).congr rfl, fun _ _ _ hlegal hwindow hstep => hwindow.step hlegal hstep⟩

end Sys2Proof.Proofs
end

section
/-!
PROOF. What a micro-step of a command and an event can do, said once each (20_memory.md R66, R70, R71), and what follows
at once: what each command leaves unchanged, who writes TCNT, STICKY and LOSTOVF, and the handshake of the command port.
-/
namespace Sys2Proof.Machine

open Sys2Proof.Claims Sys2Proof.Safety

/-! ## Everything a micro-step of a command can do (20_memory.md R66) -/

/-- A command that reads or converts and writes RES alone. -/
abbrev readsOnly (i : Instr) : Prop :=
  (∃ idx, i = .rdreg idx) ∨ (∃ ch r, i = .pr2w ch r) ∨ ∃ ch w, i = .pw2r ch w

/-- `CommandStep s i t`: from `s` a micro-step of the command `i` may answer `t`. -/
inductive CommandStep (s : State) : Instr → State → Prop
  | rangeError {i : Instr} (illegal : i.wellFormed s.params = false) : CommandStep s i (raiseErr .operandRange s)
  | reading {i : Instr} (snapshots : i = .snap ∨ i = .etick) (toie : Bool) (l1 e l2 : Byte) (k : Phase) :
      CommandStep s i { s with toie := toie, l1 := l1, eLatch := e, l2 := l2, seq := .busy (encode i) k }
  | snapEnd : CommandStep s .snap (complete ((snapshotValue s).setWidth 32) (acceptSnapshot s))
  | tickEnd (last : phaseOf s.seq = .s5) :
      CommandStep s .etick (complete ((tickDelta s).setWidth 32) (recordTick (acceptSnapshot s)))
  | query : CommandStep s .eqry (complete (windowFreq s) { s with freq := windowFreq s })
  | setWiper {i : Instr} {ch : Channel} {v : Imm} (sets : i = .pset ch v ∨ i = .psetr ch v) (w : Byte) (res : Word) :
      CommandStep s i (complete res (sendWiper ch w s))
  | value {i : Instr} (reads : readsOnly i) (res : Word) : CommandStep s i (complete res s)
  | tuneStays : CommandStep s .tune (complete 0 s)
  | tuneMoves (m : TuneMove) (res : Word) : CommandStep s .tune (complete res (tuneFrames m s))
  | setTarget {v : Imm} (legal : 20000 ≤ v.toNat ∧ v.toNat ≤ 35000) (res : Word) :
      CommandStep s (.stgt v) (complete res { s with target := v.setWidth 16 })

variable {s t : State} {i : Instr} {ev : Event}

/-- Before S5 a snapshot writes TOIE, the latches and SEQ, and nothing else. -/
theorem snapshotStep_cases (c : Word) (finish : State → State) (s : State) :
    (phaseOf s.seq = .s5 ∧ snapshotStep c finish s = finish s) ∨
    ∃ toie l1 e l2 k, snapshotStep c finish s =
      { s with toie := toie, l1 := l1, eLatch := e, l2 := l2, seq := .busy c k } := by
  cases h : phaseOf s.seq with
  | s0 => exact .inr ⟨_, _, _, _, _, snapshotStep_s0 h⟩
  | s1 => exact .inr ⟨_, _, _, _, _, snapshotStep_s1 h⟩
  | s2 => exact .inr ⟨_, _, _, _, _, snapshotStep_s2 h⟩
  | s3 => exact .inr ⟨_, _, _, _, _, snapshotStep_s3 h⟩
  | s4 => exact .inr ⟨_, _, _, _, _, snapshotStep_s4 h⟩
  | s5 => exact .inl ⟨rfl, snapshotStep_s5 h⟩

theorem commandStep_of_exec (h : exec i s = .next t) : CommandStep s i t := by
  by_cases hwf : i.wellFormed s.params = false
  · cases (exec_of_not_wellFormed hwf).symm.trans h
    exact .rangeError hwf
  have hlegal : i.wellFormed s.params = true := by simpa using hwf
  cases i with
  | snap =>
    cases h
    obtain ⟨-, heq⟩ | ⟨toie, l1, e, l2, k, heq⟩ := snapshotStep_cases (encode .snap) _ s <;> rw [heq]
    · exact .snapEnd
    · exact .reading (.inl rfl) ..
  | etick =>
    cases h
    obtain ⟨hlast, heq⟩ | ⟨toie, l1, e, l2, k, heq⟩ := snapshotStep_cases (encode .etick) _ s <;> rw [heq]
    · exact .tickEnd hlast
    · exact .reading (.inr rfl) ..
  | eqry =>
    cases h
    exact .query
  | pset ch w =>
    cases (checked_of_legal hlegal).symm.trans h
    exact .setWiper (.inl rfl) ..
  | psetr ch r =>
    cases (checked_of_legal hlegal).symm.trans h
    exact .setWiper (.inr rfl) ..
  | pr2w ch r =>
    cases (checked_of_legal hlegal).symm.trans h
    exact .value (.inr (.inl ⟨ch, r, rfl⟩)) _
  | pw2r ch w =>
    cases (checked_of_legal hlegal).symm.trans h
    exact .value (.inr (.inr ⟨ch, w, rfl⟩)) _
  | tune =>
    simp only [exec, execTune] at h
    split at h <;> cases h
    · exact .tuneStays
    · exact .tuneMoves ..
  | stgt v =>
    cases (checked_of_legal hlegal).symm.trans h
    exact .setTarget (targetLegal_iff.mp hlegal) _
  | rdreg idx =>
    obtain ⟨r, hreg⟩ := Option.isSome_iff_exists.mp hlegal
    simp only [exec, execRdreg, hreg] at h
    cases h
    exact .value (.inl ⟨idx, rfl⟩) _

/-! ## What each command leaves unchanged (20_memory.md R66, R70) -/

namespace CommandStep

theorem keeps_inputs (h : CommandStep s i t) :
    t.params = s.params ∧ t.rstN = s.rstN ∧ t.cmdPort = s.cmdPort ∧ t.tcnt = s.tcnt ∧ t.ext = s.ext ∧ t.ovf = s.ovf ∧
      t.lostOvf = s.lostOvf ∧ t.agenda = s.agenda ∧ t.draws = s.draws := by
  cases h with
  | tuneMoves m res => simp [tuneFrames_eq]
  | _ => exact ⟨rfl, rfl, rfl, rfl, rfl, rfl, rfl, rfl, rfl⟩

theorem keeps_snapshot (h : CommandStep s i t) (hsnap : i ≠ .snap) (hetick : i ≠ .etick) :
    t.toie = s.toie ∧ t.snap = s.snap ∧ t.l1 = s.l1 ∧ t.eLatch = s.eLatch ∧ t.l2 = s.l2 := by
  cases h with
  | reading snapshots => exact absurd snapshots (not_or.mpr ⟨hsnap, hetick⟩)
  | snapEnd => exact absurd rfl hsnap
  | tickEnd => exact absurd rfl hetick
  | tuneMoves m res => simp [tuneFrames_eq]
  | _ => exact ⟨rfl, rfl, rfl, rfl, rfl⟩

theorem keeps_ring (h : CommandStep s i t) (hetick : i ≠ .etick) :
    t.ring = s.ring ∧ t.cur = s.cur ∧ t.prev = s.prev := by
  cases h with
  | tickEnd => exact absurd rfl hetick
  | tuneMoves m res => simp [tuneFrames_eq]
  | _ => exact ⟨rfl, rfl, rfl⟩

theorem keeps_freq (h : CommandStep s i t) (heqry : i ≠ .eqry) : t.freq = s.freq := by
  cases h with
  | query => exact absurd rfl heqry
  | tuneMoves m res => simp [tuneFrames_eq]
  | _ => rfl

theorem keeps_wipers (h : CommandStep s i t) (hpset : ∀ ch v, i ≠ .pset ch v) (hpsetr : ∀ ch v, i ≠ .psetr ch v)
    (htune : i ≠ .tune) : t.wiper = s.wiper ∧ t.dev = s.dev ∧ t.frames = s.frames := by
  cases h with
  | setWiper sets => exact absurd sets (not_or.mpr ⟨hpset _ _, hpsetr _ _⟩)
  | tuneMoves => exact absurd rfl htune
  | _ => exact ⟨rfl, rfl, rfl⟩

theorem keeps_target (h : CommandStep s i t) (hstgt : ∀ v, i ≠ .stgt v) : t.target = s.target := by
  cases h with
  | setTarget => exact absurd rfl (hstgt _)
  | tuneMoves m res => simp [tuneFrames_eq]
  | _ => rfl

theorem sticky_cases (h : CommandStep s i t) :
    t.sticky = s.sticky ∨ t.sticky = true ∧ t.lastErr = some .operandRange := by
  cases h with
  | rangeError => exact .inr ⟨rfl, rfl⟩
  | tuneMoves m res => simp [tuneFrames_eq]
  | _ => exact .inl rfl

/-- A command that stays in progress is a snapshot and presents no response; one that ends presents its response. -/
theorem response_cases (h : CommandStep s i t) :
    (t.seq = .idle ∧ t.rspValid = true) ∨ ((∃ c k, t.seq = .busy c k) ∧ t.rspValid = s.rspValid) := by
  cases h with
  | reading => exact .inr ⟨⟨_, _, rfl⟩, rfl⟩
  | _ => exact .inl ⟨rfl, rfl⟩

end CommandStep

/-! ## Everything an event can do (20_memory.md R71) -/

/-- `EventStep s ev t`: from `s` the event `ev` may answer `t`. -/
inductive EventStep (s : State) : Event → State → Prop
  | stutter {ev : Event} (disabled : enabled ev s = false) : EventStep s ev s
  | checkFailed {c : Word} {k : Phase} (seq : s.seq = .busy c k) (code : CmdError) : EventStep s .seq (raiseErr code s)
  | command {c : Word} {k : Phase} {i : Instr} {t : State} (seq : s.seq = .busy c k) (decodes : decode c = .ok i)
      (exec : exec i s = .next t) : EventStep s .seq t
  | pulse (run : s.rstN = true) : EventStep s (.pulseIn s.params.edge) (pulse s)
  | service (ovf : s.ovf = true) (toie : s.toie = true) : EventStep s .service (service s)
  | accept {c : Word} (run : s.rstN = true) (idle : s.seq = .idle) (port : s.cmdPort = some c) :
      EventStep s .accept (acceptWord c s)
  | host (cmd : Option Word) : EventStep s (.host cmd) (driveCmd cmd s)
  | device (ch : Channel) (w : Byte) : EventStep s (.device ch w) (setDevice ch w s)
  | resetLow : EventStep s (.rst false) (assertReset s)
  | resetHigh : EventStep s (.rst true) { s with rstN := true }

theorem fire_accept {c : Word} (h : s.cmdPort = some c) : fire .accept s = acceptWord c s := by
  simp only [fire, acceptCmd, h]

theorem eventStep_of_fire (hen : enabled ev s = true) (hev : ev ≠ .seq) : EventStep s ev (fire ev s) := by
  cases ev with
  | pulseIn e =>
    obtain ⟨hrun, rfl⟩ := enabled_pulseIn_iff.mp hen
    exact .pulse hrun
  | service =>
    obtain ⟨-, hovf, htoie⟩ := enabled_service_iff.mp hen
    exact .service hovf htoie
  | accept =>
    obtain ⟨⟨hrun, hidle⟩, hport⟩ := enabled_accept_iff.mp hen
    obtain ⟨c, hc⟩ := Option.isSome_iff_exists.mp hport
    rw [fire_accept hc]
    exact .accept hrun hidle hc
  | seq => exact absurd rfl hev
  | host cmd => exact .host cmd
  | device ch w => exact .device ch w
  | rst level =>
    cases level with
    | false => exact .resetLow
    | true => exact .resetHigh

theorem eventStep_of_react (h : react ev s = .next t) : EventStep s ev t := by
  obtain ⟨hdis, heq⟩ | ⟨rfl, hen, heq⟩ | ⟨hev, hen, heq⟩ := react_cases ev s <;> rw [heq] at h
  · cases h
    exact .stutter hdis
  · obtain ⟨hidle, -⟩ | ⟨c, k, code, hseq, -, hs⟩ | ⟨c, k, i, hseq, hd, hs⟩ := seqStep_cases s
    · simp [enabled, hidle] at hen
    · cases hs.symm.trans h
      exact .checkFailed hseq code
    · exact .command hseq hd (hs.symm.trans h)
  · cases h
    exact eventStep_of_fire hen hev

/-! ## The records of errors and of lost overflows (10_state.md R29, 60_exceptions.md R222) -/

theorem react_keeps_sticky (h : react ev s = .next t) (hrst : ev ≠ .rst false) (hs : s.sticky = true) :
    t.sticky = true := by
  cases eventStep_of_react h with
  | command _ _ hexec =>
    obtain hsame | ⟨hset, -⟩ := (commandStep_of_exec hexec).sticky_cases
    · exact hsame.trans hs
    · exact hset
  | checkFailed => rfl
  | pulse => exact (pulse_sticky s).trans hs
  | resetLow => exact absurd rfl hrst
  | stutter | service | accept | host | device | resetHigh => exact hs

theorem react_keeps_lostOvf (h : react ev s = .next t) (hrst : ev ≠ .rst false) (hs : s.lostOvf = true) :
    t.lostOvf = true := by
  cases eventStep_of_react h with
  | command _ _ hexec =>
    obtain ⟨-, -, -, hlost⟩ := counterRegs_eq_iff.mp (counterRegs_of_exec hexec)
    exact hlost.trans hs
  | pulse => rw [pulse_lostOvf, hs, Bool.true_or]
  | resetLow => exact absurd rfl hrst
  | checkFailed | stutter | service | accept | host | device | resetHigh => exact hs

/-- A run that has a first event is a run after that event's answer. -/
theorem after_cons_eq_some {evs : List Event} (h : after (ev :: evs) s = some t) :
    ∃ u, react ev s = .next u ∧ after evs u = some t := by
  rw [after] at h
  split at h
  case h_1 u hreact => exact ⟨u, hreact, h⟩
  case h_2 => cases h

/-- A predicate that every event but the assertion of reset keeps holds after any of them. -/
theorem after_keeps {P : State → Prop} {evs : List Event} (h : after evs s = some t)
    (hevs : ∀ ev ∈ evs, ev ≠ .rst false)
    (hkeeps : ∀ {ev : Event} {s t : State}, react ev s = .next t → ev ≠ .rst false → P s → P t) (hs : P s) :
    P t := by
  induction evs generalizing s with
  | nil =>
    cases h
    exact hs
  | cons ev evs ih =>
    obtain ⟨hev, hrest⟩ := List.forall_mem_cons.mp hevs
    obtain ⟨u, hreact, hafter⟩ := after_cons_eq_some h
    exact ih hafter hrest (hkeeps hreact hev hs)

/-! ## TCNT (40_timer_counter.md R101) and the count of edges (10_state.md R32) -/

/-- No event but PULSE and the assertion of reset writes TCNT. -/
theorem react_tcnt (h : react ev s = .next t) (hrst : ev ≠ .rst false)
    (hpulse : ¬ (ev = pulseEvent s.params ∧ s.rstN = true)) : t.tcnt = s.tcnt := by
  cases eventStep_of_react h with
  | command _ _ hexec => exact (counterRegs_eq_iff.mp (counterRegs_of_exec hexec)).1
  | pulse hrun => exact absurd ⟨rfl, hrun⟩ hpulse
  | resetLow => exact absurd rfl hrst
  | checkFailed | stutter | service | accept | host | device | resetHigh => rfl

/-- Where `rst_n` is not driven, neither it nor the parameters change. -/
theorem react_params_rstN (h : react ev s = .next t) (hrst : ∀ l, ev ≠ .rst l) :
    t.params = s.params ∧ t.rstN = s.rstN := by
  cases eventStep_of_react h with
  | command _ _ hexec =>
    obtain ⟨hparams, hrstN, -⟩ := (commandStep_of_exec hexec).keeps_inputs
    exact ⟨hparams, hrstN⟩
  | pulse => exact ⟨pulse_params s, pulse_rstN s⟩
  | resetLow => exact absurd rfl (hrst false)
  | resetHigh => exact absurd rfl (hrst true)
  | checkFailed | stutter | service | accept | host | device => exact ⟨rfl, rfl⟩

/-! ## The command port (10_state.md R21) -/

theorem cmdReady_iff : cmdReady s = true ↔ s.seq = .idle ∧ s.rstN = true := by
  simp [cmdReady, and_comm]

theorem enabled_accept_eq_false (h : cmdReady s = false ∨ s.cmdPort = none) : enabled .accept s = false := by
  obtain h | h := h <;> simp [enabled, h]

theorem react_accept {c : Word} (hready : cmdReady s = true) (hport : s.cmdPort = some c) :
    react .accept s = .next (acceptWord c s) := by
  have hen : enabled .accept s = true := by simp [enabled, hready, hport]
  rw [react_fire hen nofun, fire_accept hport]

/-- A command that a micro-step of SEQ ends presents its response. -/
theorem rspValid_of_ends {c : Word} {k : Phase} (hseq : s.seq = .busy c k) (h : react .seq s = .next t)
    (hidle : t.seq = .idle) : t.rspValid = true := by
  cases eventStep_of_react h with
  | stutter => cases hseq.symm.trans hidle
  | checkFailed => rfl
  | command _ _ hexec =>
    obtain ⟨-, hvalid⟩ | ⟨⟨c', k', hbusy⟩, -⟩ := (commandStep_of_exec hexec).response_cases
    · exact hvalid
    · cases hbusy.symm.trans hidle

/-- While SEQ is idle the response stands until acceptance or reset. -/
theorem response_of_idle (hidle : s.seq = .idle) (haccept : ev ≠ .accept) (hrst : ev ≠ .rst false)
    (h : react ev s = .next t) : t.rspValid = s.rspValid ∧ t.res = s.res ∧ t.lastErr = s.lastErr := by
  cases eventStep_of_react h with
  | checkFailed hseq => cases hidle.symm.trans hseq
  | command hseq => cases hidle.symm.trans hseq
  | pulse => exact ⟨pulse_rspValid s, pulse_res s, pulse_lastErr s⟩
  | accept => exact absurd rfl haccept
  | resetLow => exact absurd rfl hrst
  | stutter | service | host | device | resetHigh => exact ⟨rfl, rfl, rfl⟩

/-! ## Answers to every event (60_exceptions.md R234) -/

theorem react_next (ev : Event) (s : State) : ∃ t, react ev s = .next t := by
  obtain ⟨-, heq⟩ | ⟨-, -, heq⟩ | ⟨-, -, heq⟩ := react_cases ev s
  · exact ⟨s, heq⟩
  · obtain ⟨-, hs⟩ | ⟨c, k, code, -, -, hs⟩ | ⟨c, k, i, -, -, hs⟩ := seqStep_cases s <;> rw [heq, hs]
    · exact ⟨s, rfl⟩
    · exact ⟨raiseErr code s, rfl⟩
    · exact exec_next i s
  · exact ⟨fire ev s, heq⟩

end Sys2Proof.Machine

namespace Sys2Proof.Proofs

open Sys2Proof.Machine Sys2Proof.Claims Sys2Proof.Safety

/-- Settles O49: the frame of each command, from what its micro-step can do (`CommandStep`). -/
theorem commandsWriteOnlyTheirOwnState : Obligations.CommandsWriteOnlyTheirOwnState := by
  intro i s t h
  have hstep := commandStep_of_exec h
  exact ⟨hstep.keeps_inputs, hstep.keeps_snapshot, hstep.keeps_ring, hstep.keeps_freq, hstep.keeps_wipers,
    hstep.keeps_target, hstep.sticky_cases⟩

/-- Settles O51: every event but the assertion of reset keeps each record. -/
theorem onlyResetClearsTheRecords : Obligations.OnlyResetClearsTheRecords := fun _ _ _ hevs h =>
  ⟨after_keeps h hevs react_keeps_sticky, after_keeps h hevs react_keeps_lostOvf⟩

/-- Settles O14: PULSE adds 1 modulo 256, reset clears, and `react_tcnt` is every other event. -/
theorem onlyPulseAndResetWriteTheLowByte : Obligations.OnlyPulseAndResetWriteTheLowByte := by
  intro ev s t h
  split_ifs with hrst hpulse
  · subst hrst
    cases h
    rfl
  · obtain ⟨rfl, hrun⟩ := hpulse
    cases (react_pulse hrun).symm.trans h
    rw [pulse_tcnt]
    exact BitVec.toNat_add ..
  · rw [react_tcnt h hrst hpulse]

/-- One event that loses no overflow moves X by an edge or not at all. -/
theorem extCount_of_react {ev : Event} {s t : State} (hrun : s.rstN = true) (hrst : ev ≠ .rst false)
    (h : react ev s = .next t) (hlost : t.lostOvf = false) :
    extCount t = extCount s + BitVec.ofNat 16 (countedEdges s.params [ev]) := by
  rw [extendedCountMovesOnlyByPulse ev s t h hrst]
  by_cases hpulse : ev = pulseEvent s.params
  · subst hpulse
    cases (react_pulse hrun).symm.trans h
    have hfits : ¬ (s.tcnt = 0xFF ∧ s.ovf = true) := by
      rintro ⟨hwrap, hovf⟩
      simp [pulse_lostOvf, hwrap, hovf] at hlost
    rw [if_pos ⟨rfl, hrun⟩, if_neg hfits]
    simp [countedEdges, pulseEvent]
  · rw [if_neg fun h => hpulse h.1]
    have hcount : countedEdges s.params [ev] = 0 := by simpa [countedEdges, pulseEvent] using hpulse
    rw [hcount]
    exact (BitVec.add_zero _).symm

/-- By induction on the events: no later event clears LOSTOVF, so no event of the run loses an overflow. -/
theorem extCount_of_after {evs : List Event} {s t : State} (hrun : s.rstN = true)
    (hevs : ∀ ev ∈ evs, ∀ l, ev ≠ .rst l) (h : after evs s = some t) (hlost : t.lostOvf = false) :
    extCount t = extCount s + BitVec.ofNat 16 (countedEdges s.params evs) := by
  induction evs generalizing s with
  | nil =>
    cases h
    exact (BitVec.add_zero _).symm
  | cons ev evs ih =>
    obtain ⟨hev, hrest⟩ := List.forall_mem_cons.mp hevs
    obtain ⟨u, hreact, hafter⟩ := after_cons_eq_some h
    obtain ⟨hparams, hrstN⟩ := react_params_rstN hreact hev
    have hkept : u.lostOvf = false := by
      by_contra hset
      have hlost' := after_keeps hafter (fun e he => hrest e he false) react_keeps_lostOvf (Bool.not_eq_false _ ▸ hset)
      exact Bool.false_ne_true (hlost.symm.trans hlost')
    rw [ih (hrstN.trans hrun) hrest hafter, extCount_of_react hrun (hev false) hreact hkept, hparams, BitVec.add_assoc,
      ← BitVec.ofNat_add, ← countedEdges_cons]

/-- Settles O13: `extCount_of_after`, with the sum read as a number. -/
theorem extendedCountIsTheNumberOfEdges : Obligations.ExtendedCountIsTheNumberOfEdges := by
  intro evs s t hrun hevs h hlost
  rw [extCount_of_after hrun hevs h hlost, BitVec.ofNat_add, BitVec.ofNat_toNat, BitVec.setWidth_eq]

/-- Settles O7: the five clauses of the handshake. -/
theorem commandPortHandshake : Obligations.CommandPortHandshake := by
  refine ⟨fun s => cmdReady_iff, fun s c => react_accept, fun s h => react_disabled (enabled_accept_eq_false h),
    fun s t c k hseq h hidle => ⟨rspValid_of_ends hseq h hidle, rfl, errCode_toNat t.lastErr⟩,
    fun ev s t hidle haccept hrst h => ?_⟩
  obtain ⟨hvalid, hres, herr⟩ := response_of_idle hidle haccept hrst h
  exact ⟨hvalid, hres, congrArg errCode herr⟩

/-- Settles O8: every event answers a next state, whatever the state. -/
theorem blockIsAlwaysAbleToStep : Obligations.BlockIsAlwaysAbleToStep := fun s =>
  react_next (nextEvent s) (dropEvent s)

/-- Settles O6: the next event is the agenda's head or a free draw; SEQ's is the micro-step of the decoded command. -/
theorem stepRunsTheDecodedCommand : Obligations.StepRunsTheDecodedCommand := by
  refine ⟨fun s ev evs h => ?_, fun s h => ?_, fun s evs c k i hrun hagenda hseq hd => ?_⟩
  · rw [step, nextEvent_cons h, dropEvent_cons h]
  · simp only [step, nextEvent, dropEvent, h]
  · have hseq' : (dropEvent s).seq = .busy c k := (dropEvent_seq s).trans hseq
    rw [step, nextEvent_cons hagenda, react_seq_busy ((dropEvent_rstN s).trans hrun) hseq', seqStep_ok hseq' hd,
      dropEvent_cons hagenda]

/-- Settles O9: each condition disables its event. -/
theorem agentsStepOnlyWhenEnabled : Obligations.AgentsStepOnlyWhenEnabled := by
  refine fun s => ⟨fun h => react_disabled ?_, fun h => react_disabled ?_, fun e h => react_disabled ?_⟩
  · obtain h | h | h := h <;> simp [enabled, serviceEnabled, h]
  · obtain h | h := h <;> simp [enabled, h]
  · obtain h | h := h <;> simp [enabled, h]

end Sys2Proof.Proofs
end

section
/-!
PROOF. The frames a step sends (10_state.md R44, 42_potentiometer.md R152, R153): mirrors and devices follow them, and at
most one chip-select is low (10_state.md R22).
-/
namespace Sys2Proof.Machine

open Sys2Proof.Claims

/-! ## The last wiper sent -/

theorem lastSent_append (fs gs : List Frame) (ch : Channel) (d : Byte) :
    lastSent (fs ++ gs) ch d = lastSent gs ch (lastSent fs ch d) := by
  simp only [lastSent, List.filter_append, List.getLast?_append]
  cases (gs.filter fun f => decide (f.ch = ch)).getLast? with
  | none => rw [Option.none_or]
  | some f => rw [Option.some_or]

theorem lastSent_singleton (f : Frame) (ch : Channel) (d : Byte) :
    lastSent [f] ch d = if ch = f.ch then f.b1 else d := by
  by_cases h : f.ch = ch
  · simp [lastSent, h]
  · simp [lastSent, h, Ne.symm h]

/-! ## What sends frames -/

/-- From `s` to `t` the frames `fs` are sent: mirrors and devices hold the last wiper of each channel. -/
structure Sends (fs : List Frame) (s t : State) : Prop where
  params  : t.params = s.params
  frames  : t.frames = s.frames ++ fs
  command : ∀ f ∈ fs, f.b0 = 0x00
  wiper   : ∀ ch, chGet t.wiper ch = lastSent fs ch (chGet s.wiper ch)
  dev     : ∀ ch, chGet t.dev ch = lastSent fs ch (chGet s.dev ch)

variable {s t u : State} {fs gs : List Frame} {ev : Event} {i : Instr}

theorem Sends.nothing (hparams : t.params = s.params) (hwiper : t.wiper = s.wiper) (hdev : t.dev = s.dev)
    (hframes : t.frames = s.frames) : Sends [] s t where
  params  := hparams
  frames  := by rw [hframes, List.append_nil]
  command := nofun
  wiper   := fun ch => by rw [hwiper]; rfl
  dev     := fun ch => by rw [hdev]; rfl

theorem Sends.trans (h : Sends fs s t) (h' : Sends gs t u) : Sends (fs ++ gs) s u where
  params  := h'.params.trans h.params
  frames  := by rw [h'.frames, h.frames, List.append_assoc]
  command := List.forall_mem_append.mpr ⟨h.command, h'.command⟩
  wiper   := fun ch => by rw [h'.wiper, h.wiper, lastSent_append]
  dev     := fun ch => by rw [h'.dev, h.dev, lastSent_append]

/-- The end of a command sends nothing. -/
theorem Sends.complete (h : Sends fs s t) (res : Word) : Sends fs s (complete res t) :=
  { h with }

theorem sends_sendWiper (ch : Channel) (w : Byte) (s : State) : Sends [⟨ch, 0x00, w⟩] s (sendWiper ch w s) where
  params  := rfl
  frames  := rfl
  command := fun f hf => by rw [List.mem_singleton.mp hf]
  wiper   := fun ch' => by rw [sendWiper_wiper, chGet_chSet, lastSent_singleton]
  dev     := fun ch' => by rw [sendWiper_dev, chGet_chSet, lastSent_singleton]

theorem sends_sendCoarse (k1 : Byte) (s : State) : ∃ fs, Sends fs s (sendCoarse k1 s) := by
  obtain ⟨h, -⟩ | ⟨h, -⟩ := sendCoarse_cases k1 s <;> rw [h]
  · exact ⟨_, sends_sendWiper ..⟩
  · exact ⟨[], .nothing rfl rfl rfl rfl⟩

theorem sends_tuneFrames (m : TuneMove) (s : State) : ∃ fs, Sends fs s (tuneFrames m s) := by
  unfold tuneFrames
  split
  · obtain ⟨fs, h⟩ := sends_sendCoarse m.coarse (sendWiper .fine m.fine s)
    exact ⟨_, (sends_sendWiper ..).trans h⟩
  · obtain ⟨fs, h⟩ := sends_sendCoarse m.coarse s
    exact ⟨_, h.trans (sends_sendWiper ..)⟩

theorem CommandStep.sends (h : CommandStep s i t) : ∃ fs, Sends fs s t := by
  cases h with
  | setWiper sets w res => exact ⟨_, (sends_sendWiper ..).complete res⟩
  | tuneMoves m res =>
    obtain ⟨fs, h⟩ := sends_tuneFrames m s
    exact ⟨fs, h.complete res⟩
  | _ => exact ⟨[], .nothing rfl rfl rfl rfl⟩

/-- Every event but the assertion of reset and a device's own change sends some frames, or none. -/
theorem sends_of_react (h : react ev s = .next t) (hrst : ev ≠ .rst false) :
    (∃ fs, Sends fs s t) ∨ ∃ ch w, ev = .device ch w ∧ t = setDevice ch w s := by
  cases eventStep_of_react h with
  | command _ _ hexec => exact .inl (commandStep_of_exec hexec).sends
  | pulse => exact .inl ⟨[], .nothing (pulse_params s) (pulse_wiper s) (pulse_dev s) (pulse_frames s)⟩
  | device ch w => exact .inr ⟨ch, w, rfl, rfl⟩
  | resetLow => exact absurd rfl hrst
  | stutter | checkFailed | service | accept | host | resetHigh => exact .inl ⟨[], .nothing rfl rfl rfl rfl⟩

/-! ## The mirrors (42_potentiometer.md R153) -/

theorem mirrorsFrames_reset (p : Params) : MirrorsFrames (State.resetWith p) :=
  ⟨nofun, fun _ => rfl⟩

theorem mirrorsFrames_of_sends (h : MirrorsFrames s) (hsends : Sends fs s t) : MirrorsFrames t := by
  obtain ⟨hcommand, hmirror⟩ := h
  refine ⟨?_, fun ch => ?_⟩
  · rw [hsends.frames]
    exact List.forall_mem_append.mpr ⟨hcommand, hsends.command⟩
  · rw [hsends.wiper, hmirror, hsends.frames, hsends.params, lastSent_append]

theorem mirrorsFrames_of_react (h : MirrorsFrames s) (hreact : react ev s = .next t) : MirrorsFrames t := by
  by_cases hrst : ev = .rst false
  · subst hrst
    cases hreact
    exact mirrorsFrames_reset s.params
  obtain ⟨fs, hsends⟩ | ⟨ch, w, -, rfl⟩ := sends_of_react hreact hrst
  · exact mirrorsFrames_of_sends h hsends
  · exact h

theorem mirrorsFrames_dropEvent (h : MirrorsFrames s) : MirrorsFrames (dropEvent s) :=
  mirrorsFrames_of_sends h (.nothing (dropEvent_params s) (dropEvent_wiper s) (dropEvent_dev s) (dropEvent_frames s))

/-! ## The chip-selects (10_state.md R22) -/

/-- At every moment the chip-selects are those of a frame or all high. -/
theorem chipSelects_of_mem_serialLines {l : BitVec 3 × Option Bool} (h : l ∈ serialLines s) :
    (∃ ch, l.1 = csDuring ch) ∨ l.1 = csIdle := by
  obtain ⟨f, -, hl⟩ := List.mem_flatMap.mp h
  simp only [frameLines, List.mem_append, List.mem_cons, List.mem_map, List.not_mem_nil, or_false] at hl
  obtain (rfl | ⟨b, -, rfl⟩) | rfl := hl
  · exact .inl ⟨f.ch, rfl⟩
  · exact .inl ⟨f.ch, rfl⟩
  · exact .inr rfl

theorem csIdle_getLsbD {n : Nat} (hn : n < 3) : csIdle.getLsbD n = true := by
  interval_cases n <;> rfl

end Sys2Proof.Machine

namespace Sys2Proof.Proofs

open Sys2Proof.Machine Sys2Proof.Claims

/-- Settles O34: the frames a step sends are appended to FRAMES, and each mirror holds the last of them on its channel
(`Sends`); reset empties FRAMES and puts the mirrors back. -/
theorem mirrorIsTheLastWiperSent : Obligations.MirrorIsTheLastWiperSent :=
  ⟨mirrorsFrames_reset, fun _ _ h hstep => mirrorsFrames_of_react (mirrorsFrames_dropEvent h) hstep⟩

/-- Settles O37: the frames of an event are `sends_of_react`'s; a device's own change sends none and leaves the devices of
the other channels as they are. -/
theorem devicesFollowTheFrames : Obligations.DevicesFollowTheFrames := by
  intro ev s t h hrst
  obtain ⟨fs, hsends⟩ | ⟨ch, w, rfl, rfl⟩ := sends_of_react h hrst
  · exact ⟨fs, hsends.frames, fun ch _ => hsends.dev ch⟩
  · refine ⟨[], (List.append_nil _).symm, fun ch' hother => ?_⟩
    have hne : ch' ≠ ch := fun heq => hother w (by rw [heq])
    rw [setDevice_dev, chGet_chSet_other _ _ hne]
    rfl

/-- Settles O36: of a frame's lines only its channel's is low, and between frames none is. -/
theorem atMostOneChipSelectIsLow : Obligations.AtMostOneChipSelectIsLow := by
  intro s l hl m n hm hn hmlow hnlow
  obtain ⟨ch, hcs⟩ | hcs := chipSelects_of_mem_serialLines hl <;> rw [hcs] at hmlow hnlow
  · rw [(csDuring_getLsbD_eq_false_iff ch hm).mp hmlow, (csDuring_getLsbD_eq_false_iff ch hn).mp hnlow]
  · rw [csIdle_getLsbD hm] at hmlow
    cases hmlow

end Sys2Proof.Proofs
end

section
/-!
PROOF. The invariant of the block (10_state.md section 7) at reset and under every step, clause by clause, and the values
that reset leaves (70_reset_and_hazards.md R250, R251).
-/
namespace Sys2Proof.Safety

open Sys2Proof.Machine Sys2Proof.Claims

variable {s t : State} {ev : Event} {i : Instr}

/-! ## RING, CUR, FREQ and TARGET (10_state.md R33, R34, R36, R39) -/

/-- The registers of the estimator and the tuner in their ranges: five clauses of `Inv` that every step keeps together. -/
structure RegistersInRange (s : State) : Prop where
  legal  : s.params.Legal
  ring   : s.ring.length = s.params.cap
  cur    : s.cur.toNat < s.params.cap
  freq   : s.freq.toNat < 2 ^ sumBits s.params
  target : 20000 ≤ s.target.toNat ∧ s.target.toNat ≤ 35000

theorem RegistersInRange.reset {p : Params} (h : p.Legal) : RegistersInRange (State.resetWith p) := by
  have ⟨⟨hcap, _⟩, _, _, _, _, _, _, _, htarget⟩ := h
  exact ⟨h, List.length_replicate, hcap, Nat.two_pow_pos _, htarget⟩

theorem recordTick_cur_lt (h : s.params.Legal) : (recordTick s).cur.toNat < s.params.cap := by
  obtain ⟨⟨hpos, -⟩, -⟩ := h
  rw [recordTick_cur, BitVec.toNat_ofNat]
  exact (Nat.mod_le _ _).trans_lt (Nat.mod_lt _ hpos)

theorem windowFreq_lt (s : State) : (windowFreq s).toNat < 2 ^ sumBits s.params := by
  rw [windowFreq_toNat]
  exact Nat.mod_lt _ (Nat.two_pow_pos _)

theorem RegistersInRange.command (h : RegistersInRange s) (hstep : CommandStep s i t) : RegistersInRange t := by
  cases hstep with
  | tickEnd =>
    exact { h with
      ring := (List.length_set ..).trans h.ring
      cur := recordTick_cur_lt (s := acceptSnapshot s) h.legal }
  | query => exact { h with freq := windowFreq_lt s }
  | @setTarget v legal res =>
    have htarget : (v.setWidth 16).toNat = v.toNat := by
      rw [BitVec.toNat_setWidth]
      exact Nat.mod_eq_of_lt (by omega)
    exact { h with target := htarget.symm ▸ legal }
  | tuneMoves m res =>
    rw [tuneFrames_eq]
    exact { h with }
  | _ => exact { h with }

theorem RegistersInRange.react (h : RegistersInRange s) (hreact : react ev s = .next t) : RegistersInRange t := by
  cases eventStep_of_react hreact with
  | command _ _ hexec => exact h.command (commandStep_of_exec hexec)
  | pulse =>
    unfold pulse
    split <;> exact { h with }
  | resetLow => exact { RegistersInRange.reset h.legal with }
  | stutter | checkFailed | service | accept | host | device | resetHigh => exact { h with }

/-! ## The latches (40_timer_counter.md R106) -/

theorem latchesLegal_of_not_critical (h : inCritical s.seq = false) : latchesLegal s := by
  cases hseq : s.seq with
  | idle => simp only [latchesLegal, hseq]
  | busy c k =>
    rw [hseq] at h
    cases k with
    | s0 => simp only [latchesLegal, hseq]
    | s1 | s2 | s3 | s4 | s5 => cases h

/-- S2 makes E the count of overflows, and S4 lets an attempt through to S5 only where its two reads agree. -/
theorem latchesLegal_of_seqStep {c : Word} {k : Phase} (h : latchesLegal s) (hseq : s.seq = .busy c k)
    (hstep : seqStep s = .next t) : latchesLegal t := by
  by_cases hc : snapshotting c
  · cases k with
    | s0 =>
      cases (seqStep_s0 hc hseq).symm.trans hstep
      trivial
    | s1 =>
      cases (seqStep_s1 hc hseq).symm.trans hstep
      trivial
    | s2 =>
      cases (seqStep_s2 hc hseq).symm.trans hstep
      exact (rfl : s.ext = s.ext)
    | s3 =>
      cases (seqStep_s3 hc hseq).symm.trans hstep
      have hread : s.eLatch = s.ext := by simpa only [latchesLegal, hseq] using h
      exact hread
    | s4 =>
      cases (seqStep_s4 hc hseq).symm.trans hstep
      have hread : s.eLatch = s.ext := by simpa only [latchesLegal, hseq] using h
      by_cases hsame : s.l1 = s.l2
      · rw [if_neg (not_not.mpr hsame)]
        exact ⟨hread, hsame⟩
      · rw [if_pos hsame]
        trivial
    | s5 =>
      obtain ⟨u, hu, haccepted⟩ := seqStep_s5 hc hseq
      cases hu.symm.trans hstep
      exact latchesLegal_of_not_critical (by rw [haccepted.seq]; rfl)
  · obtain ⟨hidle, -⟩ := seqStep_of_not_snapshotting hc hseq hstep
    exact latchesLegal_of_not_critical (by rw [hidle]; rfl)

/-- SERVICE, the one writer of EXT, is disabled in the critical section. -/
theorem latchesLegal_of_react (h : latchesLegal s) (htoie : ToieFollowsSeq s) (hreact : react ev s = .next t) :
    latchesLegal t := by
  cases eventStep_of_react hreact with
  | command hseq hd hexec => exact latchesLegal_of_seqStep h hseq ((seqStep_ok hseq hd).trans hexec)
  | pulse =>
    unfold pulse
    split <;> exact h
  | service _ henabled =>
    have hopen : inCritical s.seq = false := by
      have hfollows := htoie.toie
      rwa [henabled, eq_comm, Bool.not_eq_true'] at hfollows
    exact latchesLegal_of_not_critical (s := service s) hopen
  | checkFailed | accept | resetLow => trivial
  | stutter | host | device | resetHigh => exact h

/-! ## The response and the held block (10_state.md R21, 70_reset_and_hazards.md R250) -/

theorem response_of_react (h : s.rspValid = true → s.seq = .idle) (hreact : react ev s = .next t) :
    t.rspValid = true → t.seq = .idle := by
  cases eventStep_of_react hreact with
  | command hseq _ hexec =>
    obtain ⟨hidle, -⟩ | ⟨-, hvalid⟩ := (commandStep_of_exec hexec).response_cases
    · exact fun _ => hidle
    · intro ht
      cases hseq.symm.trans (h (hvalid.symm.trans ht))
  | pulse => simpa using h
  | accept => exact nofun
  | checkFailed | resetLow => exact fun _ => rfl
  | stutter | service | host | device | resetHigh => exact h

theorem held_of_react (h : s.rstN = false → s.seq = .idle) (hreact : react ev s = .next t) :
    t.rstN = false → t.seq = .idle := by
  cases eventStep_of_react hreact with
  | command hseq _ hexec =>
    obtain ⟨-, hrstN, -⟩ := (commandStep_of_exec hexec).keeps_inputs
    intro ht
    cases hseq.symm.trans (h (hrstN.symm.trans ht))
  | pulse => simpa using h
  | accept hrun => exact fun ht => nomatch hrun.symm.trans ht
  | resetHigh => exact nofun
  | checkFailed | resetLow => exact fun _ => rfl
  | stutter | service | host | device => exact h

/-! ## The invariant -/

theorem Inv.of_parts (hwipers : WipersInRange s) (hregs : RegistersInRange s) (htoie : ToieFollowsSeq s)
    (hlatches : latchesLegal s) (hresponse : s.rspValid = true → s.seq = .idle)
    (hheld : s.rstN = false → s.seq = .idle) : Inv s where
  params   := hregs.legal
  ring     := hregs.ring
  cur      := hregs.cur
  freq     := hregs.freq
  wiper    := hwipers.wiper
  target   := hregs.target
  toie     := htoie.toie
  phase    := htoie.phase
  latches  := hlatches
  response := hresponse
  held     := hheld

theorem Inv.react (h : Inv s) (hreact : react ev s = .next t) : Inv t := by
  have htoie : ToieFollowsSeq s := ⟨h.toie, h.phase⟩
  have hwipers : WipersInRange s := ⟨h.params, h.wiper⟩
  have hregs : RegistersInRange s := ⟨h.params, h.ring, h.cur, h.freq, h.target⟩
  exact .of_parts (hwipers.react hreact) (hregs.react hreact) (htoie.react hreact)
    (latchesLegal_of_react h.latches htoie hreact) (response_of_react h.response hreact) (held_of_react h.held hreact)

/-- No clause speaks of the agenda or the draws. -/
theorem Inv.dropEvent (h : Inv s) : Inv (dropEvent s) := by
  unfold Machine.dropEvent
  split <;> exact { h with }

theorem Inv.resetWith {p : Params} (h : p.Legal) : Inv (State.resetWith p) :=
  .of_parts (.reset h) (.reset h) (.of_not_critical rfl rfl) trivial (fun _ => rfl) (fun _ => rfl)

end Sys2Proof.Safety

namespace Sys2Proof.Claims

open Sys2Proof.Machine

/-! ## Reset -/

theorem AtReset.resetWith (p : Params) : AtReset (State.resetWith p) := by
  constructor
  case status => exact BitVec.eq_of_toNat_eq (statusWord_toNat _)
  all_goals rfl

theorem AtReset.assertReset (s : State) : AtReset (assertReset s) :=
  { AtReset.resetWith s.params with }

/-- While `rst_n` is low no agent has a step and no command is accepted. -/
theorem react_of_held {s : State} {ev : Event} (h : s.rstN = false)
    (hev : ev = .seq ∨ ev = .service ∨ ev = .accept ∨ ∃ e, ev = .pulseIn e) : react ev s = .next s := by
  refine react_disabled ?_
  obtain rfl | rfl | rfl | ⟨e, rfl⟩ := hev <;> simp [enabled, cmdReady, h]

end Sys2Proof.Claims

namespace Sys2Proof.Proofs

open Sys2Proof.Machine Sys2Proof.Claims Sys2Proof.Safety

/-- Settles O54: each clause of the invariant is kept by every event (`Inv.react`), and none speaks of the agenda. -/
theorem stepKeepsTheInvariant : Obligations.StepKeepsTheInvariant := fun _ _ h hstep =>
  h.dropEvent.react hstep

/-- Settles O53: each clause of the invariant at reset, for legal parameters, as State.reset's are. -/
theorem resetMeetsTheInvariant : Obligations.ResetMeetsTheInvariant :=
  ⟨fun _ _ hlegal => { Inv.resetWith hlegal with }, Inv.resetWith (by decide)⟩

/-- Settles O52: reset writes every register with a stated value and keeps the devices; in reset no agent is enabled. -/
theorem resetLeavesTheStatedValues : Obligations.ResetLeavesTheStatedValues := by
  refine ⟨AtReset.resetWith, fun s => ?_⟩
  have hreset : AtReset (assertReset s) := .assertReset s
  have hreleased : AtReset { assertReset s with rstN := true } := { hreset with }
  exact ⟨assertReset s, { assertReset s with rstN := true }, rfl, hreset, rfl, rfl, rfl, rfl, csLines_eq_idle _,
    fun _ => react_of_held rfl, rfl, hreleased, rfl, rfl, rfl⟩

end Sys2Proof.Proofs
end

section
/-!
PROOF. A SNAP that nothing interrupts (40_timer_counter.md section 2), the value of an accepted attempt (R107), and when
an attempt is accepted (R108).
-/
namespace Sys2Proof.Machine

open Sys2Proof.Claims Sys2Proof.Safety

variable {s t u : State} {c : Word} {k : Phase} {evs : List Event}

/-! ## An uninterrupted SNAP (40_timer_counter.md section 2) -/

theorem after_seq_cons (hrun : s.rstN = true) (hseq : s.seq = .busy c k) (hstep : seqStep s = .next t) :
    after (.seq :: evs) s = after evs t :=
  after_cons ((react_seq_busy hrun hseq).trans hstep)

/-- The state a SNAP leaves when no other step comes between its micro-steps. -/
def snapped (s : State) : State :=
  completed (BitVec.ofNat 32 (256 * s.ext.toNat + s.tcnt.toNat))
    { s with
      toie := true, l1 := s.tcnt, eLatch := s.ext, l2 := s.tcnt
      snap := BitVec.ofNat 16 (256 * s.ext.toNat + s.tcnt.toNat) }

theorem seqStep_snap_s5 (hseq : s.seq = .busy (word 0x1 0 0) .s5) :
    seqStep s = .next (completed (BitVec.ofNat 32 (latchNum s))
      { s with toie := true, snap := BitVec.ofNat 16 (latchNum s) }) := by
  obtain ⟨-, hsteps⟩ := Proofs.snapMicroSteps
  obtain ⟨-, -, -, -, -, -, hs5⟩ := hsteps s
  exact (seqStep_ok hseq (decode_encode .snap)).trans (hs5 hseq)

/-- The two reads of TCNT are the same one, so the first attempt is accepted. -/
theorem after_six_seq (hrun : s.rstN = true) (hseq : s.seq = .busy (word 0x1 0 0) .s0) :
    after (List.replicate 6 .seq) s = some (snapped s) := by
  have hc : snapshotting (word 0x1 0 0) := .inl rfl
  refine Eq.trans (after_seq_cons hrun hseq (seqStep_s0 hc hseq)) ?_
  refine Eq.trans (after_seq_cons (k := .s1) hrun rfl (seqStep_s1 hc rfl)) ?_
  refine Eq.trans (after_seq_cons (k := .s2) hrun rfl (seqStep_s2 hc rfl)) ?_
  refine Eq.trans (after_seq_cons (k := .s3) hrun rfl (seqStep_s3 hc rfl)) ?_
  refine Eq.trans (after_seq_cons (k := .s4) hrun rfl (seqStep_s4 hc rfl)) ?_
  rw [if_neg (not_not.mpr rfl)]
  exact after_seq_cons (k := .s5) (evs := []) hrun rfl (seqStep_snap_s5 rfl)

/-! ## The value of an accepted attempt (40_timer_counter.md R107) -/

/-- X without the 256 of a pending overflow. -/
theorem extCount_sub_pending (s : State) :
    extCount s - BitVec.ofNat 16 (256 * s.ovf.toNat) = BitVec.ofNat 16 (256 * s.ext.toNat + s.tcnt.toNat) := by
  have := s.ovf.toNat_le
  apply BitVec.eq_of_toNat_eq
  rw [BitVec.toNat_sub, extCount_toNat, BitVec.toNat_ofNat, BitVec.toNat_ofNat]
  omega

theorem extCount_sub_pending_eq_iff (s : State) :
    extCount s - BitVec.ofNat 16 (256 * s.ovf.toNat) = extCount s ↔ s.ovf = false := by
  rw [sub_eq_self]
  cases s.ovf <;> decide

/-! ## When an attempt is accepted (40_timer_counter.md R108) -/

theorem add_ofNat_eq_self_iff (x : Byte) (n : Nat) : x = x + BitVec.ofNat 8 n ↔ n % 256 = 0 := by
  rw [left_eq_add, ← BitVec.toNat_inj, BitVec.toNat_ofNat]
  rfl

/-- The second read of TCNT is the first one exactly when the PULSE steps between them are a multiple of 256. -/
theorem Attempted.reading_by_count {m n : Nat} (h : Attempted c m n s u) :
    Reading c (if m % 256 = 0 then .s5 else .s1) u := by
  have hsame : u.l1 = u.l2 ↔ m % 256 = 0 := by rw [h.l1, h.l2, add_ofNat_eq_self_iff]
  have hreading := h.reading
  rwa [ite_not, if_congr hsame rfl rfl] at hreading

/-- Attempts that all see other counts leave the command at S1, however many they are. -/
theorem reading_of_failing_attempts {attempts : List (List Event × List Event × List Event × List Event)}
    (hr : Reading c .s1 s)
    (hfail : ∀ a ∈ attempts, (∀ ev ∈ a.1 ++ a.2.1 ++ a.2.2.1 ++ a.2.2.2, isOther ev = true) ∧
      countedEdges s.params (a.1 ++ a.2.1) % 256 ≠ 0) :
    ∃ u, after (attempts.flatMap fun a => attempt a.1 a.2.1 a.2.2.1 a.2.2.2) s = some u ∧ Reading c .s1 u := by
  induction attempts generalizing s with
  | nil => exact ⟨s, rfl, hr⟩
  | cons a attempts ih =>
    obtain ⟨⟨hother, hcount⟩, hrest⟩ := List.forall_mem_cons.mp hfail
    obtain ⟨-, v, -, hv, -, hend⟩ := after_attempt hr hother
    have hrv := hend.reading_by_count
    rw [if_neg hcount] at hrv
    obtain ⟨u, hu, hru⟩ := ih hrv (by rwa [hend.params])
    exact ⟨u, by rw [List.flatMap_cons, after_append hv, hu], hru⟩

end Sys2Proof.Machine

namespace Sys2Proof.Proofs

open Sys2Proof.Machine Sys2Proof.Claims Sys2Proof.Safety

/-- Settles O16: the six micro-steps one after another (`after_six_seq`). -/
theorem uninterruptedSnapReadsTheCounter : Obligations.UninterruptedSnapReadsTheCounter := fun _ => after_six_seq

/-- Settles O19: an accepted attempt holds EXT and TCNT as they are at its S1 (`after_attempt`), which is X without the
256 that a pending overflow stands for. -/
theorem acceptedSnapshotIsTheCountAtItsFirstRead : Obligations.AcceptedSnapshotIsTheCountAtItsFirstRead := by
  intro s c o1 o2 o3 o4 u t hrun htoie hc hseq hother hafter hs5 hreact
  obtain ⟨-, u', -, hu, -, hend⟩ := after_attempt ⟨hc, hrun, htoie, hseq⟩ hother
  obtain rfl : u' = u := Option.some.inj (hu.symm.trans hafter)
  obtain ⟨t', ht, haccepted⟩ := seqStep_s5 hc hs5
  cases ((react_seq_busy hend.reading.run hs5).trans ht).symm.trans hreact
  have hvalue : t.snap = extCount s - BitVec.ofNat 16 (256 * s.ovf.toNat) := by
    rw [haccepted.snap, snapshotValue_eq_ofNat, latchNum, hend.eLatch, hend.l1, extCount_sub_pending]
  exact ⟨hvalue, hvalue ▸ extCount_sub_pending_eq_iff s⟩

/-- Settles O20: an attempt ends by its count (`Attempted.reading_by_count`); failing ones repeat without end
(`reading_of_failing_attempts`). -/
theorem attemptIsAcceptedByPulseCount : Obligations.AttemptIsAcceptedByPulseCount := by
  refine ⟨fun s c o1 o2 o3 o4 hrun htoie hc hseq hother => ?_, fun s c attempts hrun htoie hc hseq hfail => ?_⟩
  · obtain ⟨-, u, -, hu, -, hend⟩ := after_attempt ⟨hc, hrun, htoie, hseq⟩ hother
    exact ⟨u, hu, hend.reading_by_count.seq⟩
  · obtain ⟨u, hu, hr⟩ := reading_of_failing_attempts ⟨hc, hrun, htoie, hseq⟩ hfail
    exact ⟨u, hu, hr.seq, hr.toie⟩

end Sys2Proof.Proofs
end

section
/-!
PROOF. The query telescopes (41_frequency_estimator.md R135): every delta of the window is the difference of two
consecutive snapshots, S_k = 0 for k up to 0 included.
-/
namespace Sys2Proof.Safety

open Sys2Proof.Machine

/-! ## The snapshots by number -/

theorem snapAt_nil (k : Int) : snapAt [] k = 0 := by
  simp [snapAt]

theorem snapAt_concat_last (snaps : List Half) (x : Half) : snapAt (snaps ++ [x]) (snaps.length + 1 : Nat) = x := by
  simp [snapAt, List.getD_eq_getElem?_getD]

theorem snapAt_concat_of_le {snaps : List Half} {k : Int} (h : k ≤ snaps.length) (x : Half) :
    snapAt (snaps ++ [x]) k = snapAt snaps k := by
  unfold snapAt
  split_ifs with hpos
  · rw [List.getD_append _ _ _ _ (by omega)]
  · rfl

theorem snapAt_length (snaps : List Half) : snapAt snaps snaps.length = snaps.getLastD 0 := by
  induction snaps using List.reverseRecOn with
  | nil => rfl
  | append_singleton snaps x _ =>
    rw [List.length_append, List.length_singleton, snapAt_concat_last, List.getLastD_concat]

/-- The snapshot `j` places before the latest. -/
def snapBack (snaps : List Half) (j : Nat) : Half := snapAt snaps (snaps.length - j : Int)

theorem snapBack_concat_zero (snaps : List Half) (x : Half) : snapBack (snaps ++ [x]) 0 = x := by
  rw [snapBack, List.length_append, List.length_singleton, Nat.cast_zero, Int.sub_zero, snapAt_concat_last]

theorem snapBack_concat_succ (snaps : List Half) (x : Half) (j : Nat) :
    snapBack (snaps ++ [x]) (j + 1) = snapBack snaps j := by
  have hplace : ((snaps ++ [x]).length : Int) - (j + 1 : Nat) = snaps.length - j := by
    rw [List.length_append, List.length_singleton]
    omega
  rw [snapBack, hplace, snapAt_concat_of_le (by omega), snapBack]

/-- The `j`-th latest delta is the difference of the snapshots `j` and `j + 1` places back. -/
theorem deltas_reverse_getD (snaps : List Half) (j : Nat) :
    (deltas snaps).reverse.getD j 0 = snapBack snaps j - snapBack snaps (j + 1) := by
  induction snaps using List.reverseRecOn generalizing j with
  | nil => simp [snapBack, snapAt_nil, deltas, diffs]
  | append_singleton snaps x ih =>
    rw [deltas_concat_reverse, snapBack_concat_succ]
    cases j with
    | zero =>
      rw [List.getD_cons_zero, snapBack_concat_zero, ← snapAt_length, snapBack, Nat.cast_zero, Int.sub_zero]
    | succ j => rw [List.getD_cons_succ, ih, snapBack_concat_succ]

/-! ## The sum of the window, as differences -/

theorem sum_map_takeD_eq_sum_range (n : Nat) (l : List Half) :
    ((l.takeD n 0).map BitVec.toNat).sum = ∑ j ∈ Finset.range n, (l.getD j 0).toNat := by
  induction n generalizing l with
  | zero => rfl
  | succ n ih =>
    rw [Finset.sum_range_succ', List.takeD_succ, List.map_cons, List.sum_cons, ih, Nat.add_comm]
    cases l <;> rfl

theorem Window.windowSum_eq_sum_differences {snaps : List Half} {s : State} (hw : Window snaps s) :
    windowSum s = ∑ j ∈ Finset.range s.params.cap, (snapBack snaps j - snapBack snaps (j + 1)).toNat := by
  have hperm : (s.ring.rotate snaps.length).reverse.Perm s.ring :=
    (List.reverse_perm _).trans (List.rotate_perm _ _)
  rw [windowSum, ← (hperm.map BitVec.toNat).sum_eq, hw.ring_rotate_reverse, sum_map_takeD_eq_sum_range]
  simp only [deltas_reverse_getD]

/-! ## Sums of consecutive differences -/

theorem sum_differences_mod (g : Nat → Half) (n : Nat) :
    (∑ j ∈ Finset.range n, (g j - g (j + 1)).toNat) % 65536 = (g 0 - g n).toNat := by
  induction n with
  | zero => simp
  | succ n ih =>
    have hsplit : g 0 - g (n + 1) = (g 0 - g n) + (g n - g (n + 1)) := (sub_add_sub_cancel ..).symm
    rw [Finset.sum_range_succ, Nat.add_mod, ih, hsplit, BitVec.toNat_add, Nat.add_mod_mod]

/-- Where no value is above the one before it, no difference wraps. -/
theorem sum_differences_of_le {g : Nat → Half} {n : Nat} (h : ∀ j < n, (g (j + 1)).toNat ≤ (g j).toNat) :
    (∑ j ∈ Finset.range n, (g j - g (j + 1)).toNat) + (g n).toNat = (g 0).toNat := by
  induction n with
  | zero => simp
  | succ n ih =>
    have hlast := h n (Nat.lt_succ_self n)
    have hrest := ih fun j hj => h j (Nat.lt_succ_of_lt hj)
    rw [Finset.sum_range_succ, BitVec.toNat_sub_of_le hlast]
    omega

end Sys2Proof.Safety

namespace Sys2Proof.Proofs

open Sys2Proof.Machine Sys2Proof.Safety

/-- Settles O26: in every run the ring is the window of the ticks (`Window.of_history`), whose sum is one of consecutive
differences; it telescopes modulo 2^16, and exactly where no difference wraps. -/
theorem queryTelescopes : Obligations.QueryTelescopes := by
  intro snaps s t run h
  have hwindow := Window.of_history run
  obtain ⟨⟨-, hcap⟩, -⟩ := legal_of_history run
  have hfreq : t.freq.toNat = windowSum s % 2 ^ sumBits s.params := by
    cases h
    rw [complete_freq, windowFreq_toNat]
  have hnewest : snapBack snaps 0 = snapAt snaps snaps.length := by rw [snapBack, Nat.cast_zero, Int.sub_zero]
  refine ⟨fun hwidth => ?_, fun hwidth hmono => ?_⟩
  · have hbits : sumBits s.params = 16 := by rw [sumBits, hwidth]
    have := (snapBack snaps s.params.cap).isLt
    rw [hfreq, hbits, hwindow.windowSum_eq_sum_differences, ← hnewest, ← snapBack]
    rw [show 2 ^ 16 = 65536 from rfl, sum_differences_mod, BitVec.toNat_sub]
    omega
  · have hbits : sumBits s.params = 32 := by rw [sumBits, hwidth]
    have hsum := sum_differences_of_le (g := snapBack snaps) (n := s.params.cap) fun j hj => by
      have hstep := hmono (snaps.length - j) (by omega) (by omega)
      rwa [Int.sub_sub] at hstep
    rw [hfreq, hbits, Nat.mod_eq_of_lt (windowSum_lt hcap hwindow.length), ← hnewest, ← snapBack,
      hwindow.windowSum_eq_sum_differences]
    omega

end Sys2Proof.Proofs
end

section
/-!
PROOF. The conversions between wiper and resistance (42_potentiometer.md R150, R151), their round trips (R159, R160), and
the commands that convert (R156 to R158).
-/
namespace Sys2Proof.Machine

open Sys2Proof.Claims Sys2Proof.Safety

/-! ## Half-up rounding (00_scope.md R11) -/

/-- The rounded quotient is within half of the exact one; a tie goes up. -/
theorem rnd_bounds {b : Nat} (hb : 0 < b) (a : Nat) : 2 * b * rnd a b ≤ 2 * a + b ∧ 2 * a < 2 * b * rnd a b + b := by
  have hlow : 2 * b * rnd a b ≤ 2 * a + b := Nat.mul_div_le ..
  have hhigh : 2 * a + b < 2 * b * (rnd a b + 1) := Nat.lt_mul_div_succ _ (by omega)
  rw [Nat.mul_add] at hhigh
  omega

variable {p : Params} {ch : Channel}

theorem maxROf_pos (h : p.Legal) (ch : Channel) : 0 < maxROf p ch := by
  obtain ⟨-, -, -, ⟨hpwm, -⟩, ⟨hcoarse, -⟩, ⟨hfine, -⟩, -⟩ := h
  cases ch with
  | pwm => exact hpwm
  | coarse => exact hcoarse
  | fine => exact hfine

/-- W2R of a wiper, times 2 STEPS, is within STEPS of the exact value. -/
theorem w2r_bounds (h : p.Legal) (ch : Channel) (w : Nat) :
    2 * stepsOf p ch * w2r p ch w ≤ 2 * (w * maxROf p ch) + stepsOf p ch ∧
      2 * (w * maxROf p ch) < 2 * stepsOf p ch * w2r p ch w + stepsOf p ch :=
  rnd_bounds (stepsOf_pos h ch) _

/-- The unclamped R2W of a resistance, times 2 MAXR, is within MAXR of the exact value. -/
theorem unclamped_bounds (h : p.Legal) (ch : Channel) (r : Nat) :
    2 * maxROf p ch * rnd (r * stepsOf p ch) (maxROf p ch) ≤ 2 * (r * stepsOf p ch) + maxROf p ch ∧
      2 * (r * stepsOf p ch) < 2 * maxROf p ch * rnd (r * stepsOf p ch) (maxROf p ch) + maxROf p ch :=
  rnd_bounds (maxROf_pos h ch) _

theorem w2r_le (h : p.Legal) {w : Nat} (hw : w < stepsOf p ch) : w2r p ch w ≤ maxROf p ch := by
  obtain ⟨hlow, -⟩ := w2r_bounds h ch w
  have hpos := maxROf_pos h ch
  have hwiper : (w + 1) * maxROf p ch ≤ stepsOf p ch * maxROf p ch := Nat.mul_le_mul_right _ hw
  have hlt : 2 * stepsOf p ch * w2r p ch w < 2 * stepsOf p ch * (maxROf p ch + 1) := by linarith
  exact Nat.lt_succ_iff.mp (Nat.lt_of_mul_lt_mul_left hlt)

/-! ## The round trip in wiper units (42_potentiometer.md R159) -/

/-- With MAXR of at least STEPS the unclamped round trip gives `w` or `w + 1`. -/
theorem unclamped_roundTrip (h : p.Legal) (hsteps : stepsOf p ch ≤ maxROf p ch) (w : Nat) :
    w ≤ rnd (w2r p ch w * stepsOf p ch) (maxROf p ch) ∧ rnd (w2r p ch w * stepsOf p ch) (maxROf p ch) ≤ w + 1 := by
  obtain ⟨hlow, hhigh⟩ := w2r_bounds h ch w
  obtain ⟨hlow', hhigh'⟩ := unclamped_bounds h ch (w2r p ch w)
  have hpos := maxROf_pos h ch
  constructor
  · have hlt : 2 * maxROf p ch * w < 2 * maxROf p ch * (rnd (w2r p ch w * stepsOf p ch) (maxROf p ch) + 1) := by
      linarith
    exact Nat.lt_succ_iff.mp (Nat.lt_of_mul_lt_mul_left hlt)
  · have hle : 2 * maxROf p ch * rnd (w2r p ch w * stepsOf p ch) (maxROf p ch) ≤ 2 * maxROf p ch * (w + 1) := by
      linarith
    exact Nat.le_of_mul_le_mul_left hle (by omega)

/-! ## The round trip in resistance units (42_potentiometer.md R160) -/

theorem r2w_of_le {r : Nat} (h : rnd (r * stepsOf p ch) (maxROf p ch) ≤ stepsOf p ch - 1) :
    r2w p ch r = rnd (r * stepsOf p ch) (maxROf p ch) :=
  Nat.min_eq_left h

theorem r2w_of_clamped {r : Nat} (h : stepsOf p ch - 1 < rnd (r * stepsOf p ch) (maxROf p ch)) :
    r2w p ch r = stepsOf p ch - 1 :=
  Nat.min_eq_right h.le

/-- A bound on an error in both directions, scaled. -/
theorem mul_natAbs_sub_le {k x y b : Nat} (hup : k * x ≤ k * y + b) (hdown : k * y ≤ k * x + b) :
    k * ((x : Int) - y).natAbs ≤ b := by
  obtain ⟨d, rfl⟩ | ⟨d, rfl⟩ := (Nat.le_total x y).imp Nat.exists_eq_add_of_le Nat.exists_eq_add_of_le
  · have hd : ((x : Int) - (x + d : Nat)).natAbs = d := by omega
    rw [hd]
    linarith
  · have hd : (((y + d : Nat) : Int) - y).natAbs = d := by omega
    rw [hd]
    linarith

/-- Off the clamp the two roundings add up. -/
theorem error_of_unclamped (h : p.Legal) {r : Nat}
    (hle : rnd (r * stepsOf p ch) (maxROf p ch) ≤ stepsOf p ch - 1) :
    2 * stepsOf p ch * ((w2r p ch (r2w p ch r) : Int) - r).natAbs ≤ maxROf p ch + stepsOf p ch := by
  rw [r2w_of_le hle]
  obtain ⟨hlow, hhigh⟩ := unclamped_bounds h ch r
  obtain ⟨hlow', hhigh'⟩ := w2r_bounds h ch (rnd (r * stepsOf p ch) (maxROf p ch))
  exact mul_natAbs_sub_le (by linarith) (by linarith)

/-- At the clamp the wiper stops one short of the full scale. -/
theorem error_of_clamped (h : p.Legal) {r : Nat} (hr : r ≤ maxROf p ch)
    (hlt : stepsOf p ch - 1 < rnd (r * stepsOf p ch) (maxROf p ch)) :
    2 * stepsOf p ch * ((w2r p ch (r2w p ch r) : Int) - r).natAbs ≤ 2 * maxROf p ch + stepsOf p ch := by
  rw [r2w_of_clamped hlt]
  obtain ⟨hlow, -⟩ := unclamped_bounds h ch r
  obtain ⟨hlow', hhigh'⟩ := w2r_bounds h ch (stepsOf p ch - 1)
  obtain ⟨n, hn⟩ := Nat.exists_eq_add_of_lt (stepsOf_pos h ch)
  rw [Nat.zero_add] at hn
  rw [hn, Nat.add_sub_cancel] at hlt hlow' hhigh' ⊢
  rw [hn] at hlow
  have hfull : 2 * maxROf p ch * (n + 1) ≤ 2 * maxROf p ch * rnd (r * (n + 1)) (maxROf p ch) :=
    Nat.mul_le_mul_left _ hlt
  have hscale : r * (n + 1) ≤ maxROf p ch * (n + 1) := Nat.mul_le_mul_right _ hr
  exact mul_natAbs_sub_le (by linarith) (by linarith)

/-! ## The commands that convert (42_potentiometer.md R156 to R158) -/

variable {s : State} {r w : Imm}

theorem resistanceLegal_eq_false_iff : resistanceLegal p ch r = false ↔ maxROf p ch < r.toNat := by
  rw [← Bool.not_eq_true, resistanceLegal_iff, not_le]

theorem exec_psetr_of_le (h : r.toNat ≤ maxROf s.params ch) :
    exec (.psetr ch r) s = .next (complete (BitVec.ofNat 32 (r2w s.params ch r.toNat))
      (sendWiper ch (BitVec.ofNat 8 (r2w s.params ch r.toNat)) s)) :=
  checked_of_legal (resistanceLegal_iff.mpr h)

theorem exec_psetr_of_lt (h : maxROf s.params ch < r.toNat) :
    exec (.psetr ch r) s = .next (raiseErr .operandRange s) :=
  exec_of_not_wellFormed (resistanceLegal_eq_false_iff.mpr h)

theorem exec_pr2w_of_le (h : r.toNat ≤ maxROf s.params ch) :
    exec (.pr2w ch r) s = .next (complete (BitVec.ofNat 32 (r2w s.params ch r.toNat)) s) :=
  checked_of_legal (resistanceLegal_iff.mpr h)

theorem exec_pr2w_of_lt (h : maxROf s.params ch < r.toNat) :
    exec (.pr2w ch r) s = .next (raiseErr .operandRange s) :=
  exec_of_not_wellFormed (resistanceLegal_eq_false_iff.mpr h)

theorem exec_pw2r_of_lt (h : w.toNat < stepsOf s.params ch) :
    exec (.pw2r ch w) s = .next (complete (BitVec.ofNat 32 (w2r s.params ch w.toNat)) s) :=
  checked_of_legal (wiperLegal_iff.mpr h)

theorem exec_pw2r_of_le (h : stepsOf s.params ch ≤ w.toNat) :
    exec (.pw2r ch w) s = .next (raiseErr .operandRange s) :=
  exec_of_not_wellFormed (wiperLegal_eq_false_iff.mpr h)

end Sys2Proof.Machine

namespace Sys2Proof.Proofs

open Sys2Proof.Machine Sys2Proof.Claims Sys2Proof.Safety

/-- Settles O31: the formulas are the definitions'; the clamp bounds R2W (`r2w_lt`), the operand's range
bounds W2R (`w2r_le`). -/
theorem conversionsStayInRange : Obligations.ConversionsStayInRange := fun _ ch hlegal =>
  ⟨fun r _ => ⟨rfl, r2w_lt hlegal ch r⟩, fun _ hw => ⟨rfl, w2r_le hlegal hw⟩⟩

/-- Settles O32: the unclamped round trip is `w` or `w + 1` (`unclamped_roundTrip`), and the clamp keeps both in range. -/
theorem wiperRoundTrip : Obligations.WiperRoundTrip := by
  intro p ch w hlegal hsteps hw
  obtain ⟨hlow, hhigh⟩ := unclamped_roundTrip hlegal hsteps w
  rw [r2w]
  omega

/-- Settles O33: the error off the clamp and at it. -/
theorem resistanceRoundTrip : Obligations.ResistanceRoundTrip := by
  refine fun p ch r hlegal hr => ⟨?_, error_of_unclamped hlegal⟩
  obtain hle | hlt := le_or_gt (rnd (r * stepsOf p ch) (maxROf p ch)) (stepsOf p ch - 1)
  · exact (error_of_unclamped hlegal hle).trans (by omega)
  · exact error_of_clamped hlegal hr hlt

/-- Settles O28: PSETR's words are `formatCWords_of_encode`; the check of its operand splits its meaning at MAXR[ch]. -/
theorem psetrConvertsAndSetsTheWiper : Obligations.PsetrConvertsAndSetsTheWiper :=
  ⟨formatCWords_of_encode (op := 0x5) (by decide) fun _ _ => rfl, fun _ _ _ => ⟨exec_psetr_of_le, exec_psetr_of_lt⟩⟩

/-- Settles O29: PR2W's words are `formatCWords_of_encode`; the check of its operand splits its meaning at MAXR[ch]. -/
theorem pr2wConvertsOnly : Obligations.Pr2wConvertsOnly :=
  ⟨formatCWords_of_encode (op := 0x6) (by decide) fun _ _ => rfl, fun _ _ _ => ⟨exec_pr2w_of_le, exec_pr2w_of_lt⟩⟩

/-- Settles O30: PW2R's words are `formatCWords_of_encode`; the check of its operand splits its meaning at STEPS[ch]. -/
theorem pw2rConvertsOnly : Obligations.Pw2rConvertsOnly :=
  ⟨formatCWords_of_encode (op := 0x7) (by decide) fun _ _ => rfl, fun _ _ _ => ⟨exec_pw2r_of_lt, exec_pw2r_of_le⟩⟩

end Sys2Proof.Proofs
end

section
/-!
PROOF. What no command reads: DEV and LOSTOVF (10_state.md R29, R38), and the counter's side but for its readers
(20_memory.md R66, R70); and the commands that give the same state again (R67).
-/
namespace Sys2Proof.Machine

open Sys2Proof.Claims

variable {s t : State} {i : Instr} {ev : Event}

/-! ## A check from a state that differs in something it does not read -/

/-- A check answers related states where its two outcomes are related and the operand is as legal. -/
theorem checked_related {R : State → State → Prop} {legal : Bool} {code : CmdError} {u u' s' : State}
    (herror : R (raiseErr code u) (raiseErr code s)) (hrule : R u' s') (h : checked legal code s s' = .next t) :
    ∃ v, checked legal code u u' = .next v ∧ R v t := by
  obtain ⟨hlegal, rfl⟩ | ⟨hlegal, rfl⟩ := checked_eq_next h
  · exact ⟨u', checked_of_legal hlegal, hrule⟩
  · exact ⟨raiseErr code u, checked_of_illegal hlegal, herror⟩

/-! ## The devices and LOSTOVF (10_state.md R29, R38) -/

/-- `u` is `t` but for DEV and LOSTOVF. -/
def AgreesButDevices (u t : State) : Prop := ∃ d l, u = blurred d l t

theorem agrees_blurred (d : PerChannel Byte) (l : Bool) (t : State) : AgreesButDevices (blurred d l t) t :=
  ⟨d, l, rfl⟩

theorem snapshotStep_blurred {c : Word} {finish : State → State} (d : PerChannel Byte) (l : Bool)
    (hfinish : ∀ s, finish (blurred d l s) = blurred d l (finish s)) (s : State) :
    snapshotStep c finish (blurred d l s) = blurred d l (snapshotStep c finish s) := by
  have hphase {k : Phase} (h : phaseOf s.seq = k) : phaseOf (blurred d l s).seq = k := h
  cases h : phaseOf s.seq with
  | s0 => rw [snapshotStep_s0 h, snapshotStep_s0 (hphase h)]; rfl
  | s1 => rw [snapshotStep_s1 h, snapshotStep_s1 (hphase h)]; rfl
  | s2 => rw [snapshotStep_s2 h, snapshotStep_s2 (hphase h)]; rfl
  | s3 => rw [snapshotStep_s3 h, snapshotStep_s3 (hphase h)]; rfl
  | s4 => rw [snapshotStep_s4 h, snapshotStep_s4 (hphase h)]; rfl
  | s5 => rw [snapshotStep_s5 h, snapshotStep_s5 (hphase h), hfinish]

theorem tuneFrames_blurred (m : TuneMove) (d : PerChannel Byte) (l : Bool) (s : State) :
    AgreesButDevices (tuneFrames m (blurred d l s)) (tuneFrames m s) := by
  rw [tuneFrames_eq, tuneFrames_eq]
  exact ⟨_, l, rfl⟩

theorem AgreesButDevices.complete {u : State} (h : AgreesButDevices u t) (res : Word) :
    AgreesButDevices (complete res u) (complete res t) := by
  obtain ⟨d, l, rfl⟩ := h
  exact ⟨d, l, rfl⟩

theorem exec_blurred (d : PerChannel Byte) (l : Bool) (h : exec i s = .next t) :
    ∃ u, exec i (blurred d l s) = .next u ∧ AgreesButDevices u t := by
  have herror : AgreesButDevices (raiseErr .operandRange (blurred d l s)) (raiseErr .operandRange s) := ⟨d, l, rfl⟩
  cases i with
  | snap =>
    cases h
    refine ⟨_, rfl, d, l, snapshotStep_blurred d l (fun u => ?_) s⟩
    rfl
  | etick =>
    cases h
    refine ⟨_, rfl, d, l, snapshotStep_blurred d l (fun u => ?_) s⟩
    rfl
  | eqry =>
    cases h
    exact ⟨_, rfl, d, l, rfl⟩
  | pset ch w => exact checked_related herror ⟨chSet d ch (w.setWidth 8), l, rfl⟩ h
  | psetr ch r => exact checked_related herror ⟨chSet d ch (BitVec.ofNat 8 (r2w s.params ch r.toNat)), l, rfl⟩ h
  | pr2w | pw2r | stgt => exact checked_related herror ⟨d, l, rfl⟩ h
  | tune =>
    have hmove : tuneMove (blurred d l s) = tuneMove s := rfl
    simp only [exec, execTune, hmove] at h ⊢
    split at h <;> cases h
    · exact ⟨_, rfl, d, l, rfl⟩
    · exact ⟨_, rfl, (tuneFrames_blurred _ d l s).complete _⟩
  | rdreg idx =>
    have hread (r : Reg) : readReg (blurred d l s) r = readReg s r := by cases r <;> rfl
    have hreg : regAt (blurred d l s).params idx = regAt s.params idx := rfl
    simp only [exec, execRdreg, hreg, hread] at h ⊢
    split at h <;> cases h <;> exact ⟨_, rfl, d, l, rfl⟩

theorem enabled_blurred (ev : Event) (d : PerChannel Byte) (l : Bool) (s : State) :
    enabled ev (blurred d l s) = enabled ev s := by
  cases ev <;> rfl

theorem pulse_blurred (d : PerChannel Byte) (l : Bool) (s : State) :
    AgreesButDevices (pulse (blurred d l s)) (pulse s) := by
  by_cases hwrap : s.tcnt = 0xFF
  · rw [pulse_of_wrap hwrap, pulse_of_wrap (s := blurred d l s) hwrap]
    exact ⟨d, l || s.ovf, rfl⟩
  · rw [pulse_of_not_wrap hwrap, pulse_of_not_wrap (s := blurred d l s) hwrap]
    exact ⟨d, l, rfl⟩

theorem fire_blurred (ev : Event) (d : PerChannel Byte) (l : Bool) (s : State) :
    AgreesButDevices (fire ev (blurred d l s)) (fire ev s) := by
  cases ev with
  | pulseIn e => exact pulse_blurred d l s
  | accept =>
    have hport : (blurred d l s).cmdPort = s.cmdPort := rfl
    simp only [fire, acceptCmd, hport]
    split <;> exact ⟨d, l, rfl⟩
  | device ch w => exact ⟨chSet d ch w, l, rfl⟩
  | rst level =>
    cases level with
    | false => exact ⟨d, false, rfl⟩
    | true => exact ⟨d, l, rfl⟩
  | service | seq | host => exact ⟨d, l, rfl⟩

theorem seqStep_blurred (d : PerChannel Byte) (l : Bool) (h : seqStep s = .next t) :
    ∃ u, seqStep (blurred d l s) = .next u ∧ AgreesButDevices u t := by
  cases hseq : s.seq with
  | idle =>
    cases (seqStep_idle hseq).symm.trans h
    exact ⟨_, seqStep_idle hseq, agrees_blurred d l s⟩
  | busy c k =>
    cases hd : decode c with
    | error code =>
      cases (seqStep_error hseq hd).symm.trans h
      exact ⟨_, seqStep_error (s := blurred d l s) hseq hd, d, l, rfl⟩
    | ok i =>
      obtain ⟨u, hu, hagrees⟩ := exec_blurred d l ((seqStep_ok hseq hd).symm.trans h)
      exact ⟨u, (seqStep_ok (s := blurred d l s) hseq hd).trans hu, hagrees⟩

theorem react_blurred (d : PerChannel Byte) (l : Bool) (h : react ev s = .next t) :
    ∃ u, react ev (blurred d l s) = .next u ∧ AgreesButDevices u t := by
  have hen := enabled_blurred ev d l s
  obtain ⟨hdis, heq⟩ | ⟨rfl, henabled, heq⟩ | ⟨hev, henabled, heq⟩ := react_cases ev s <;> rw [heq] at h
  · cases h
    exact ⟨_, react_disabled (hen.trans hdis), agrees_blurred d l s⟩
  · rw [react_seq (hen.trans henabled)]
    exact seqStep_blurred d l h
  · cases h
    exact ⟨_, react_fire (hen.trans henabled) hev, fire_blurred ev d l s⟩

theorem nextEvent_blurred (d : PerChannel Byte) (l : Bool) (s : State) : nextEvent (blurred d l s) = nextEvent s := rfl

theorem dropEvent_blurred (d : PerChannel Byte) (l : Bool) (s : State) :
    dropEvent (blurred d l s) = blurred d l (dropEvent s) := by
  have hagenda : (blurred d l s).agenda = s.agenda := rfl
  simp only [dropEvent, hagenda]
  split <;> rfl

/-! ## The counter's side (20_memory.md R66, R70) -/

/-- The index of a register in the map (44_register_access.md R200). -/
def regIndex : Reg → Nat
  | .status        => 0x0
  | .snap          => 0x1
  | .freq          => 0x2
  | .prev          => 0x3
  | .cur           => 0x4
  | .target        => 0x5
  | .wiper .pwm    => 0x6
  | .wiper .coarse => 0x7
  | .wiper .fine   => 0x8
  | .tcnt          => 0x9
  | .ext           => 0xA
  | .cap           => 0xB
  | .ring n        => 0x1000 + n

/-- Every register has one index. -/
theorem regIndex_of_regAt {p : Params} {idx : Imm} {r : Reg} (h : regAt p idx = some r) : idx.toNat = regIndex r := by
  unfold regAt at h
  split at h
  case h_13 =>
    split_ifs at h with hring
    cases h
    exact (Nat.add_sub_cancel' hring.1).symm
  all_goals
    cases h
    assumption

theorem idx_of_regAt {p : Params} {idx : Imm} {r : Reg} (h : regAt p idx = some r) :
    idx = BitVec.ofNat 24 (regIndex r) := by
  rw [← regIndex_of_regAt h, BitVec.ofNat_toNat, BitVec.setWidth_eq]

/-- STATUS, TCNT and EXT are the registers that show the counter. -/
theorem readReg_withCounter (tc ex : Byte) (ov lo : Bool) (s : State) {r : Reg} (hstatus : r ≠ .status)
    (htcnt : r ≠ .tcnt) (hext : r ≠ .ext) : readReg (withCounter tc ex ov lo s) r = readReg s r := by
  cases r with
  | status => exact absurd rfl hstatus
  | tcnt => exact absurd rfl htcnt
  | ext => exact absurd rfl hext
  | _ => rfl

theorem tuneFrames_withCounter (m : TuneMove) (tc ex : Byte) (ov lo : Bool) (s : State) :
    tuneFrames m (withCounter tc ex ov lo s) = withCounter tc ex ov lo (tuneFrames m s) := by
  rw [tuneFrames_eq, tuneFrames_eq]
  rfl

/-- A check of a command that does not read the counter. -/
theorem checked_withCounter {legal : Bool} {u' s' : State} (tc ex : Byte) (ov lo : Bool)
    (hrule : u' = withCounter tc ex ov lo s') (h : checked legal .operandRange s s' = .next t) :
    checked legal .operandRange (withCounter tc ex ov lo s) u' = .next (withCounter tc ex ov lo t) := by
  obtain ⟨v, hv, rfl⟩ := checked_related (R := fun u t => u = withCounter tc ex ov lo t)
    (u := withCounter tc ex ov lo s) rfl hrule h
  exact hv

theorem exec_withCounter (tc ex : Byte) (ov lo : Bool) (hsnap : i ≠ .snap) (hetick : i ≠ .etick)
    (hrdreg : ∀ idx : Imm, i = .rdreg idx → idx ≠ 0x0 ∧ idx ≠ 0x9 ∧ idx ≠ 0xA) (h : exec i s = .next t) :
    exec i (withCounter tc ex ov lo s) = .next (withCounter tc ex ov lo t) := by
  cases i with
  | snap => exact absurd rfl hsnap
  | etick => exact absurd rfl hetick
  | eqry =>
    cases h
    rfl
  | pset | psetr | pr2w | pw2r | stgt => exact checked_withCounter tc ex ov lo rfl h
  | tune =>
    have hmove : tuneMove (withCounter tc ex ov lo s) = tuneMove s := rfl
    simp only [exec, execTune, hmove, tuneFrames_withCounter] at h ⊢
    split at h <;> cases h <;> rfl
  | rdreg idx =>
    obtain ⟨hstatus, htcnt, hext⟩ := hrdreg idx rfl
    have hreg : regAt (withCounter tc ex ov lo s).params idx = regAt s.params idx := rfl
    simp only [exec, execRdreg, hreg] at h ⊢
    split at h
    case h_1 r hr =>
      have hidx := idx_of_regAt hr
      have hread : readReg (withCounter tc ex ov lo s) r = readReg s r := by
        refine readReg_withCounter tc ex ov lo s ?_ ?_ ?_ <;> rintro rfl
        exacts [hstatus hidx, htcnt hidx, hext hidx]
      cases h
      rw [hread]
      rfl
    case h_2 =>
      cases h
      rfl

/-! ## The commands that read and convert (20_memory.md R67) -/

theorem CommandStep.of_readsOnly (h : CommandStep s i t) (hi : readsOnly i) :
    t = raiseErr .operandRange s ∨ ∃ res, t = complete res s := by
  cases h with
  | rangeError => exact .inl rfl
  | value reads res => exact .inr ⟨res, rfl⟩
  | reading snapshots => obtain rfl | rfl := snapshots <;> simp [readsOnly] at hi
  | setWiper sets => obtain rfl | rfl := sets <;> simp [readsOnly] at hi
  | _ => simp [readsOnly] at hi

/-- Only STATUS shows how a command ended, and it shows no difference where no error stood before. -/
theorem readReg_complete (res : Word) {r : Reg} (h : r = .status → s.lastErr = none) :
    readReg (complete res s) r = readReg s r := by
  cases r with
  | status => simp [readReg, statusWord, h rfl]
  | _ => rfl

/-- A command that writes nothing it reads, repeated with nothing between, gives the same state again. -/
theorem exec_repeated
    (hi : i = .eqry ∨ (∃ ch v, i = .pr2w ch v) ∨ (∃ ch v, i = .pw2r ch v) ∨ (∃ v, i = .stgt v) ∨
      ∃ idx : Imm, i = .rdreg idx ∧ (idx ≠ 0 ∨ s.lastErr = none))
    (h : exec i s = .next t) : exec i t = .next t := by
  by_cases hwf : i.wellFormed s.params = false
  · cases (exec_of_not_wellFormed hwf).symm.trans h
    exact exec_of_not_wellFormed (s := raiseErr .operandRange s) hwf
  have hlegal : i.wellFormed s.params = true := by simpa using hwf
  cases i with
  | eqry =>
    cases h
    rfl
  | pr2w | pw2r | stgt =>
    cases (checked_of_legal hlegal).symm.trans h
    exact checked_of_legal hlegal
  | rdreg idx =>
    have hstatus : idx ≠ 0 ∨ s.lastErr = none := by simpa using hi
    obtain ⟨r, hr⟩ := Option.isSome_iff_exists.mp hlegal
    have hread (v : Word) : readReg (complete v s) r = readReg s r := by
      refine readReg_complete v ?_
      rintro rfl
      exact hstatus.resolve_left (not_not.mpr (idx_of_regAt hr))
    simp only [exec, execRdreg, hr] at h
    cases h
    simp only [exec, execRdreg, complete_params, hr, hread]
    rfl
  | snap | etick | pset | psetr | tune => simp at hi

end Sys2Proof.Machine

namespace Sys2Proof.Proofs

open Sys2Proof.Machine Sys2Proof.Claims Sys2Proof.Safety

/-- Settles O38: every answer to an event agrees, but for DEV and LOSTOVF, with the answer from a state that differs in
them alone (`react_blurred`). -/
theorem nothingReadsTheDevices : Obligations.NothingReadsTheDevices := by
  intro s t d l h
  obtain ⟨u, hu, d', l', rfl⟩ := react_blurred d l h
  refine ⟨blurred d' l' t, ?_, rfl⟩
  rw [step, nextEvent_blurred, dropEvent_blurred]
  exact hu

/-- Settles O50: `exec_withCounter`, command by command. -/
theorem otherCommandsDoNotReadTheCounter : Obligations.OtherCommandsDoNotReadTheCounter :=
  fun _ _ _ tc ex ov lo hsnap hetick hrdreg h => exec_withCounter tc ex ov lo hsnap hetick hrdreg h

/-- Settles O48: a reading command only completes (`CommandStep.of_readsOnly`); the idempotent ones are `exec_repeated`;
an uninterrupted SNAP changes neither EXT nor TCNT (`snapped`), which are all it reads. -/
theorem readsHaveNoSideEffect : Obligations.ReadsHaveNoSideEffect := by
  refine ⟨fun s t i hi h hok => ?_, fun s t i => exec_repeated, fun s t hrun hseq h => ?_⟩
  · obtain rfl | ⟨res, rfl⟩ := (commandStep_of_exec h).of_readsOnly hi
    · cases hok
    · rfl
  · cases (after_six_seq hrun hseq).symm.trans h
    exact ⟨rfl, after_six_seq hrun rfl⟩

end Sys2Proof.Proofs
end

section
/-!
PROOF. The fields of STATUS (10_state.md R43), and a TUNE under a non-decreasing frequency response (43_tuner.md R191).
-/
namespace Sys2Proof.Machine

open Sys2Proof.Claims

variable {s t : State}

/-! ## STATUS (10_state.md R43) -/

theorem codeNum_le (err : Option CmdError) : codeNum err ≤ 4 := by
  rcases err with _ | code
  · exact Nat.zero_le _
  · cases code <;> decide

theorem statusWord_getLsbD (s : State) (n : Nat) : (statusWord s).getLsbD n = decide (statusNum s / 2 ^ n % 2 = 1) := by
  rw [BitVec.getLsbD, statusWord_toNat, Nat.testBit_eq_decide_div_mod_eq]

theorem decide_toNat_eq_one {n : Nat} {b : Bool} (h : n = b.toNat) : decide (n = 1) = b := by
  rw [h]
  cases b <;> rfl

/-! ## A step of the relay (43_tuner.md R191) -/

/-- A TUNE that moves and does not carry steps the fine wiper by one against the error. -/
theorem fine_of_no_cross (hne : s.freq.toNat ≠ s.target.toNat) (h : exec .tune s = .next t)
    (hcross : t.res.getLsbD 2 = false) :
    (s.target.toNat < s.freq.toNat ∧ t.wiper.fine.toNat ≤ s.wiper.fine.toNat) ∨
      (s.freq.toNat < s.target.toNat ∧ s.wiper.fine.toNat ≤ t.wiper.fine.toNat) := by
  obtain ⟨heq, -⟩ | ⟨-, hmoved⟩ := exec_tune_cases h
  · exact absurd heq hne
  have hfine := hmoved.fine_of_band (hmoved.cross.symm.trans hcross)
  rw [steppedFine] at hfine
  split_ifs at hfine with hdir
  · exact .inl ⟨hdir, by omega⟩
  · exact .inr ⟨by omega, by omega⟩

end Sys2Proof.Machine

namespace Sys2Proof.Proofs

open Sys2Proof.Machine Sys2Proof.Claims

/-- Settles O47: the fields of STATUS as a number. -/
theorem statusWordFields : Obligations.StatusWordFields := by
  intro s
  have hcode := codeNum_le s.lastErr
  have hsticky := s.sticky.toNat_le
  have htoie := s.toie.toNat_le
  have hovf := s.ovf.toNat_le
  simp only [statusWord_getLsbD, statusWord_toNat]
  refine ⟨?_, decide_toNat_eq_one ?_, decide_toNat_eq_one ?_, decide_toNat_eq_one ?_, ?_⟩ <;>
    rw [statusNum] <;> omega

/-- Settles O45: the step is against the error (`fine_of_no_cross`), so the response moves toward TARGET, or past it. -/
theorem tuneMovesTowardTheTarget : Obligations.TuneMovesTowardTheTarget := by
  intro g s t hmono hexact hne h hcross before now
  have hbefore : before = (s.freq.toNat : Int) - s.target.toNat := by rw [hexact]
  obtain ⟨habove, hdown⟩ | ⟨hbelow, hup⟩ := fine_of_no_cross hne h hcross
  · have hpos : 0 < before := by omega
    have hmove : now ≤ before := Int.sub_le_sub_right (Int.ofNat_le.mpr (hmono _ _ hdown)) _
    refine ⟨fun hsign => ?_, fun hsign => ?_⟩
    · have := nonneg_of_mul_nonneg_right hsign hpos
      omega
    · have := neg_of_mul_neg_right hsign hpos.le
      omega
  · have hneg : before < 0 := by omega
    have hmove : before ≤ now := Int.sub_le_sub_right (Int.ofNat_le.mpr (hmono _ _ hup)) _
    refine ⟨fun hsign => ?_, fun hsign => ?_⟩
    · have := nonpos_of_mul_nonneg_right hsign hneg
      omega
    · have := pos_of_mul_neg_right hsign hneg.le
      omega

end Sys2Proof.Proofs
end
